-- ==== Sys2Proof/Word.lean ====
section
/-! DEFINITION. The two word kinds of the station: a byte of a frame or record, and a raw analogue reading. -/

namespace Sys2Proof

/-- A character of the link or of the setup port, and a byte of a stored record (R184). -/
abbrev Byte := BitVec 8

/-- A raw reading of an analogue field line, 0 to 4095 (section 1.4). -/
abbrev Raw := BitVec 12

end Sys2Proof
end

