-- ==== Sys2Proof/Syntax.lean ====
section
/-! DEFINITION. The commands of the block: one constructor for each row of the table of operations and events.
The table names no operands; those here are what each event brings from outside (log 6, DESIGN CHOICE). -/

namespace Sys2Proof

/-- The two pools (R32). -/
inductive Pool where
  | milk
  | air
deriving DecidableEq, Repr

/-- The four reset causes (R180). -/
inductive Cause where
  | powerOn
  | supplyDrop
  | resetLine
  | restart
deriving DecidableEq, Repr

/-- The ways a received run breaks (R12). -/
inductive RunFault where
  | noSync
  | longLength
  | gap
  | noStopBit
  | trailingRun
deriving DecidableEq, Repr

/-- A run of received characters at its expected end: the microseconds the line was idle before its first character, and
the characters (R12). -/
structure Run where
  idleMicros : Nat
  chars : List Byte
deriving DecidableEq, Repr

/-- Characters that break the receive checks: the microseconds the line was idle before the first of them, and how they
break them (R12). -/
structure RunBreak where
  idleMicros : Nat
  fault : RunFault
deriving DecidableEq, Repr

/-- A press head; head number h is the value plus one (R144). -/
abbrev HeadNo := Fin 4

/-- The commands, in the order of the table. An ORDER's `sender`, `arg` and `tag` are those of its frame; `all` says
that its destination is 0 (R18). `rising` is the direction of an edge and `level` the new level of a line. `body` is
the body of a setup command frame. -/
inductive Instr where
  -- the make-room link
  | runJudged (run : Run)
  | runFramingError (cause : RunBreak)
  | linkErrorTallyFull
  | statusBuild
  | openingSecondEnd
  | transmissionAttemptStart (idleMicros : Nat)
  | collision
  | txDropped
  | backoffExpiry (idleMicros : Nat)
  | frameSent
  -- orders
  | orderStart (sender arg tag : Byte)
  | orderHold (all : Bool) (sender arg tag : Byte)
  | orderResume (all : Bool) (sender arg tag : Byte)
  | orderAbort (sender arg tag : Byte)
  | orderCutNow (sender arg tag : Byte)
  | orderClear (sender arg tag : Byte)
  | orderAck (sender arg tag : Byte)
  | orderUnknown (all : Bool) (sender code arg tag : Byte)
  -- the peer table
  | peerTimeout (number : Nat)
  | peerRecordRemoval (number : Nat)
  -- the Share Unit
  | bandSample (milkRaw airRaw : Raw)
  | bandChange (pool : Pool)
  | tapDegraded (pool : Pool)
  | degradedEnd (pool : Pool)
  | onceASecondReckoning
  | waitedStepAdvance (pool : Pool)
  -- the vat's lines
  | holdLineActive
  | holdLineInactive
  | startLineEdge (rising : Bool)
  | estopLineActive
  | estopLineInactive
  -- record writes of the batch
  | checkpointWriteDone
  | historyWriteDone (number : Nat)
  -- the Fill Unit
  | meterEdge (rising : Bool)
  | coverVolumeReached
  | fillTargetReached
  | fillSecond
  | meterFault
  | fillSlow
  | settleEnd
  | doseEnd
  -- the Coagulation Monitor
  | setClockSecond
  | mixEnd
  | sampleComplete (raw : Raw)
  | firmnessSensor
  | noFloc
  | cutDue
  -- the Knife Drive Unit
  | reverseDwellEnd
  | startGraceEnd
  | driveSecond
  | cutDurationRun
  | rampTimeRun
  | stirTimeRun
  | turnEdge (rising : Bool)
  | knifeStall
  | driveFaultActive (level : Bool)
  -- moulding and the Load Queue
  | loadDoneEdge (rising : Bool)
  | mouldingEnd
  | vatEmptyActive (level : Bool)
  | loadLate (sequence : Nat)
  -- the Press Heads
  | driveSample (raw1 raw2 raw3 raw4 : Raw)
  | pressSecond (raw1 raw2 raw3 raw4 : Raw)
  | stageHoldEnd (head : HeadNo)
  | holdUnderpressure (head : HeadNo)
  | headPendingOut (head : HeadNo)
  | ventEnd (head : HeadNo)
  | headUnload (head : HeadNo)
  | guardOpen
  | guardClose
  | headRecordWriteDone (head : HeadNo)
  -- the setup port
  | setupFrameAbandon (gapMicros : Nat)
  | setupCharacterDiscard (character : Byte)
  | setupUnknownCommand (code : Byte) (body : List Byte)
  | responseSent
  | identify (body : List Byte)
  | readSettings (body : List Byte)
  | writeSettings (body : List Byte)
  | settingsProgramDone (held : List Byte) (crcGood : Bool)
  | checkSettings (body : List Byte)
  | eraseSettings (body : List Byte)
  | readLink (body : List Byte)
  | readPeers (body : List Byte)
  | readPools (body : List Byte)
  | readBatches (body : List Byte)
  | readFill (body : List Byte)
  | readFirmness (body : List Byte)
  | readKnife (body : List Byte)
  | readQueue (body : List Byte)
  | readHeads (body : List Byte)
  | readAlerts (body : List Byte)
  | readCauses (body : List Byte)
  | clearHeadFaults (body : List Byte)
  | ackAlert (body : List Byte)
  | clearCauses (body : List Byte)
  | restart (body : List Byte)
  -- start-up and the rest
  | causeRecordWriteDone (held : Byte) (crcGood : Bool)
  | reset (cause : Cause)
  | startSequence
  | listenTimerExpiry
  | firmnessReading (raw : Raw)
  | outputPeriodEnd (head : HeadNo)
  | commandFrameBegin
  | commandCrcFailed (code : Byte) (body : List Byte) (crc : BitVec 16)
deriving DecidableEq, Repr

end Sys2Proof
end

