-- ==== Sys2Proof/Decode.lean ====
section
/-! DEFINITION. The table gives no row any bits, so no word spells a command (log 30, DESIGN CHOICE). -/

namespace Sys2Proof

/-- The command that a word spells by the table's bits: none, for every word, since no row gives bits. -/
def decodeTableWord (_nbits _w : Nat) : Option Instr := none

end Sys2Proof
end

