-- ==== Sys2Proof/Config.lean ====
section
/-! DEFINITION. The values the manual leaves open. None has a body, so no proof can see what it is. -/

namespace Sys2Proof

/-- The part code IDENTIFY returns (R174); the manual gives no value (log 12, DESIGN CHOICE). -/
opaque Config.partCode : BitVec 16

/-- The revision IDENTIFY returns (R174); the manual gives no value (log 12, DESIGN CHOICE). -/
opaque Config.revision : BitVec 8

/-- The direction READ KNIFE gives when no job is in force (R131); unstated (log 14, DESIGN CHOICE). -/
opaque Config.noJobDirection : BitVec 8

/-- The position byte of a RANGE answer to CLEAR HEAD FAULTS or ACK ALERT (13.3); unstated (log 16, DESIGN CHOICE). -/
opaque Config.rangePosition : BitVec 8

/-- The STIR speed before the ramp when the ramp time is 0, of the cut speed and the stir speed: R130 then divides by 0
(log 17, DESIGN CHOICE). -/
opaque Config.rampDivZero : Nat → Nat → BitVec 16

/-- A byte of a settings section whose write a reset cut short, of the count of free values taken and the byte's place
(R175; log 11, DESIGN CHOICE). -/
opaque Config.tornByte : Nat → Nat → BitVec 8

/-- Whether a line set to a sensitivity code outside 1 to 3 counts an edge, of the code and whether the edge rises; 13.4
names no such code (log 51, DESIGN CHOICE). -/
opaque Config.strayEdge : Nat → Bool → Bool

/-- Whether a valve sense code above 1 inverts its output (13.4 names no such code; log 51, DESIGN CHOICE). -/
opaque Config.straySense : Nat → Bool

/-- Whether a guard mode code above 1 vents (13.4 names no such code; log 51, DESIGN CHOICE). -/
opaque Config.strayGuardMode : Nat → Bool

/-- Whether a present byte above 1 marks a recipe (13.4 names no such value; log 51, DESIGN CHOICE). -/
opaque Config.strayMark : Nat → Bool

/-- The g of the served set when the ramp air per head A is 0, of the AIR grant: R150 then divides by 0 (log 64, DESIGN
CHOICE). -/
opaque Config.servedDivZero : Nat → Nat

end Sys2Proof
end

