-- ==== Sys2Proof/Machine/Types.lean ====
section
/-! DEFINITION. The names and records the chapters use: modes, steps, claims, records of the peers, the batch, the
loads, the alerts, and the settings as the running configuration holds them. -/

namespace Sys2Proof.Machine

/-- The station mode (R183). `starting` is the model's name for the span from a reset to the end of the start sequence,
in which the station has no mode yet (log 7, DEDUCED). -/
inductive Mode where
  | starting
  | listen
  | ready
  | mute
  | setupOnly
deriving DecidableEq, Repr

/-- The vat's step (R58). -/
inductive Step where
  | idle
  | filling
  | setting
  | cutting
  | stirring
  | moulding
  | stopped
deriving DecidableEq, Repr

/-- The phase of a step (R58). -/
inductive Phase where
  | none
  | flow
  | settle
  | dose
  | mix
  | quiet
  | dwell
  | ramp
  | run
deriving DecidableEq, Repr

/-- The judged state of a header (R35). -/
inductive Band where
  | normal
  | low
  | starved
deriving DecidableEq, Repr

/-- A node's role (13.2). -/
inductive Role where
  | vat
  | panel
deriving DecidableEq, Repr

/-- A claim as a STATUS carries it (R45). -/
structure Claim where
  level   : Nat
  holding : Bool
  waited  : Nat
  request : Nat
  floor   : Nat
deriving DecidableEq, Repr

/-- The fields of a STATUS that a peer record copies (Table 2-1). -/
structure Reported where
  role        : Role
  ready       : Bool
  batchNumber : Nat
  step        : Step
  held        : Bool
  milkBand    : Band
  airBand     : Band
  usableHeads : Nat
  highest     : Option Nat
  milkClaim   : Option Claim
  airClaim    : Option Claim
deriving DecidableEq, Repr

/-- A peer record (R20); `live` is LIVE or SILENT, and the heard age is kept in ms. -/
structure PeerRecord where
  number   : Nat
  live     : Bool
  lastSeq  : Nat
  missed   : Nat
  ageMs    : Nat
  reported : Reported
deriving DecidableEq, Repr

/-- The five kinds of frame (Table 1-1). -/
inductive FrameKind where
  | status
  | order
  | reply
  | alert
  | report
deriving DecidableEq, Repr

/-- A frame the station sends, before it takes its sequence value (R5, R6). -/
structure TxFrame where
  kind : FrameKind
  dest : Nat
  body : List Byte
deriving DecidableEq, Repr

/-- The frame in flight (R7): its sequence value, its attempt count, and whether an attempt is under way or a backoff
is waited out. -/
structure Flight where
  frame    : TxFrame
  seq      : Nat
  attempts : Nat
  sending  : Bool
deriving DecidableEq, Repr

/-- A received frame that the checks of R13 found valid. -/
structure RxFrame where
  sender : Nat
  dest   : Nat
  kind   : Nat
  seq    : Nat
  body   : List Byte
deriving DecidableEq, Repr

/-- The receive state of the link between two runs (R12). In `judged` a frame has been judged and the line has not been
idle for more than the run gap since, so the characters that follow form a trailing run; in `ignoring` characters form
no run until the line has been idle for more than the run gap. -/
inductive Receive where
  | ignoring
  | judged
deriving DecidableEq, Repr

/-- The kind of a counted link error (R15). -/
inductive LinkError where
  | crc
  | framing
deriving DecidableEq, Repr

/-- A tap sample as kept for readout (R34). -/
inductive Sample where
  | kpa (p : Nat)
  | sensor
deriving DecidableEq, Repr

/-- The own claim as the Share Unit keeps it (R41); `stepMs` counts toward the next waited step (R44). -/
structure OwnClaim where
  level   : Nat
  request : Nat
  floor   : Nat
  waited  : Nat
  stepMs  : Nat
deriving DecidableEq, Repr

/-- The last-reckoning figures (R53). -/
structure Reckoned where
  derate     : Nat
  effective  : Nat
  rank       : Nat
  candidates : Nat
  remainder  : Nat
deriving DecidableEq, Repr

/-- The hold-reason set (R61). -/
structure HoldSet where
  order : Bool
  line  : Bool
  alert : Bool
  meter : Bool
  knife : Bool
deriving DecidableEq, Repr

/-- The hold reasons (R61). -/
inductive Reason where
  | order
  | line
  | alert
  | meter
  | knife
deriving DecidableEq, Repr

/-- The verdicts on an order (13.2). -/
inductive Verdict where
  | accepted
  | refusedState
  | refusedSlot
  | refusedHeads
  | refusedListen
  | refusedUnknown
deriving DecidableEq, Repr

/-- The cut reasons (Table 6-3). -/
inductive CutReason where
  | predicted
  | clampedMin
  | clampedMax
  | lateDetect
  | noFloc
  | sensor
  | ordered
deriving DecidableEq, Repr

/-- The outcomes of a batch (R77). -/
inductive BatchOutcome where
  | running
  | vatDone
  | done
  | aborted
  | estop
  | interrupted
deriving DecidableEq, Repr

/-- A batch record (Table 4-3). -/
structure BatchRecord where
  number     : Nat
  slot       : Nat
  startTime  : Nat
  step       : Step
  phase      : Phase
  stepStart  : Nat
  filled     : Nat
  overrun    : Int
  flocTime   : Option Nat
  cutTime    : Nat
  cutReason  : CutReason
  lateness   : Nat
  made       : Nat
  untracked  : Nat
  pressed    : Nat
  flagged    : Nat
  outcome    : BatchOutcome
  firstFault : Option Step
  laneClosed : Bool
deriving DecidableEq, Repr

/-- The current batch: none, one whose record is open, or one closed into the history and kept current until CLEAR
(R77, R80). -/
inductive Current where
  | none
  | opened (r : BatchRecord)
  | closed (number : Nat)
deriving DecidableEq, Repr

/-- The batch checkpoint (R78). -/
structure Checkpoint where
  lastNumber : Nat
  record     : Option BatchRecord
deriving DecidableEq, Repr

/-- Monitor states (Table 6-1). -/
inductive MonitorState where
  | inactive
  | mix
  | watch
  | armed
  | pending
  | due
deriving DecidableEq, Repr

/-- Drive states (Table 7-1). -/
inductive DriveState where
  | stopped
  | dwell
  | starting
  | running
  | faulted
deriving DecidableEq, Repr

/-- The direction of the knives, the value of KNIFE REVERSE (R121). -/
inductive Direction where
  | stir
  | cut
deriving DecidableEq, Repr

/-- The four knife jobs (R122). -/
inductive JobKind where
  | fillStir
  | mix
  | cut
  | stir
deriving DecidableEq, Repr

/-- A job with its speed; its direction follows from its kind (R122). -/
structure Job where
  kind  : JobKind
  speed : Nat
deriving DecidableEq, Repr

/-- The flags of a load (R133). -/
structure LoadFlags where
  late          : Bool
  underpressure : Bool
  guardAbort    : Bool
  estop         : Bool
deriving DecidableEq, Repr

/-- A load record (Table 8-2); the waited time is kept in ms. -/
structure Load where
  sequence    : Nat
  batchNumber : Nat
  slot        : Nat
  madeTime    : Nat
  waitedMs    : Nat
  flags       : LoadFlags
deriving DecidableEq, Repr

/-- Head states (Table 9-1); `unfitted` stands for a head that has none of the six (R144, R161). -/
inductive HeadState where
  | unfitted
  | free
  | ramp
  | hold
  | vent
  | unload
  | out
deriving DecidableEq, Repr

/-- Output stages (R146). -/
inductive OutputStage where
  | normal
  | inverted
  | forcedOff
  | released
deriving DecidableEq, Repr

/-- A head table record (R160). -/
structure HeadRecord where
  failCount : Nat
  occupied  : Bool
deriving DecidableEq, Repr

/-- The nineteen alert kinds, in the order of Table 10-1. -/
inductive AlertKind where
  | estop
  | numberClash
  | milkStarved
  | airStarved
  | headerSensor
  | knifeStall
  | knifeDriveFault
  | meterFault
  | guardAbort
  | headOut
  | firmnessSensor
  | noFloc
  | fillSlow
  | holdUnderpressure
  | loadLate
  | loadQueueFull
  | shortMoulding
  | batchInterrupted
  | linkErrors
deriving DecidableEq, Repr

/-- A pending alert record (R164). -/
structure AlertRecord where
  kind        : AlertKind
  level       : Nat
  batchNumber : Nat
  step        : Step
  detail      : Nat
  firstRaised : Nat
  repeats     : Nat
deriving DecidableEq, Repr

/-- The beacon (R166). -/
inductive Beacon where
  | off
  | slow
  | fast
deriving DecidableEq, Repr

/-- The port's states (R171), and the span before it is served. -/
inductive PortMode where
  | unserved
  | waiting
  | receiving
  | busy
deriving DecidableEq, Repr

/-- Response outcomes (13.3). -/
inductive ResponseOutcome where
  | done
  | failed
  | unknown
deriving DecidableEq, Repr

/-- Response results (13.3). -/
inductive ResponseResult where
  | none
  | check
  | length
  | state
  | range
  | verify
  | empty
deriving DecidableEq, Repr

/-- A response frame's contents (13.3). -/
structure Response where
  outcome : ResponseOutcome
  code    : Byte
  result  : ResponseResult
  body    : List Byte
deriving DecidableEq, Repr

/-- What a command still in hand waits for before its response or its reset (R175, R176, R179). -/
inductive PortWork where
  | none
  | write (sectionNo : Nat) (contents : List Byte)
  | erase (sectionNo : Nat)
  | clearCauses
  | restart
deriving DecidableEq, Repr

/-- The four cause flags (R180). -/
structure CauseFlags where
  powerOn    : Bool
  supplyDrop : Bool
  resetLine  : Bool
  restart    : Bool
deriving DecidableEq, Repr

/-- A record of the retained store: what the store holds, whether its CRC is good, the contents being written and the
contents that the next write carries (R78, R80, R160). -/
structure Slot (α : Type) where
  stored   : α
  good     : Bool
  inFlight : Option α
  next     : Option α
deriving DecidableEq, Repr

/-- Four like things, one for each head or recipe slot. -/
structure Four (α : Type) where
  h1 : α
  h2 : α
  h3 : α
  h4 : α
deriving DecidableEq, Repr

/-- The settings of one pool (R32). -/
structure PoolSettings where
  capacity     : Nat
  fullScale    : Nat
  lowEnter     : Nat
  lowLeave     : Nat
  starvedEnter : Nat
  starvedLeave : Nat
deriving DecidableEq, Repr

/-- The LINES section (Table 11-2), its sensitivities and valve senses as the codes that the section stores (R178). -/
structure LineSettings where
  meter         : Nat
  turn          : Nat
  loadDone      : Nat
  start         : Nat
  reverseDwell  : Nat
  sense         : Four Nat
deriving DecidableEq, Repr

/-- The FILL/VALVE section (Table 5-3). -/
structure FillSettings where
  pulseVolume : Nat
  rampStep    : Nat
  gain        : Nat
deriving DecidableEq, Repr

/-- The PRESS section (Table 9-3), its guard mode as the code that the section stores (R178). -/
structure PressSettings where
  fitted        : Nat
  rampAir       : Nat
  kf            : Nat
  kp            : Nat
  holdBand      : Nat
  holdFaultTime : Nat
  failLimit     : Nat
  guardMode     : Nat
deriving DecidableEq, Repr

/-- One stage of a press schedule (R147); the hold time is a duration code. -/
structure Stage where
  pressure : Nat
  rate     : Nat
  hold     : Nat
deriving DecidableEq, Repr

/-- A recipe (13.4); every time is a duration code, and the present mark the byte that the section stores (R178). -/
structure Recipe where
  presentMark  : Nat
  minHeads     : Nat
  loadsCount   : Nat
  maxWait      : Nat
  fillLevel    : Nat
  fillRate     : Nat
  fillFloor    : Nat
  target       : Nat
  allowance    : Nat
  cover        : Nat
  fillStir     : Nat
  fillLimit    : Nat
  doseTime     : Nat
  mixTime      : Nat
  mixSpeed     : Nat
  period       : Nat
  minSlope     : Nat
  multiplier   : Nat
  tMin         : Nat
  tFallback    : Nat
  tMax         : Nat
  cutSpeed     : Nat
  cutDuration  : Nat
  rampTime     : Nat
  stirSpeed    : Nat
  stirTime     : Nat
  pressLevel   : Nat
  stageCount   : Nat
  stages       : List Stage
deriving DecidableEq, Repr

/-- The running configuration (R178): the eleven sections as taken at the start, each field at the value stored, so that
the stored settings can be laid out again from it. -/
structure RunConfig where
  stationNumber : Nat
  localSlot     : Nat
  peerTimeout   : Nat
  milk          : PoolSettings
  air           : PoolSettings
  lines         : LineSettings
  fill          : FillSettings
  press         : PressSettings
  alertLevels   : List Nat
  recipes       : Four Recipe
deriving DecidableEq, Repr

end Sys2Proof.Machine
end

