-- ==== Sys2Proof/Machine/Formats.lean ====
section
/-! DEFINITION. Chapter 13: byte order, codes, the CRC, frames and duration codes. -/

namespace Sys2Proof.Machine

/-! ### Bytes, most significant first (R184) -/

def byte (n : Nat) : Byte := BitVec.ofNat 8 n

def be16 (n : Nat) : List Byte := [byte (n / 256), byte n]

def be32 (n : Nat) : List Byte := [byte (n / 16777216), byte (n / 65536), byte (n / 256), byte n]

/-- A signed quantity of four bytes, two's complement (R184). -/
def beInt32 (i : Int) : List Byte := be32 (BitVec.ofInt 32 i).toNat

/-- A signed quantity of two bytes, the least value when absent (R184). -/
def beOptInt16 : Option Int → List Byte
  | none   => be16 0x8000
  | some i => be16 (BitVec.ofInt 16 i).toNat

/-- An optional unsigned quantity of two bytes, all ones when absent (R184). -/
def beOpt16 (o : Option Nat) : List Byte := be16 (o.getD 0xFFFF)

/-- An optional unsigned quantity of one byte, all ones when absent (R184). -/
def beOpt8 (o : Option Nat) : List Byte := [byte (o.getD 0xFF)]

/-- A flag: 0 for clear, 1 for set (R184). -/
def flag (b : Bool) : List Byte := [byte b.toNat]

/-- The value of bytes sent most significant first (R184). -/
def fromBytes (bs : List Byte) : Nat := bs.foldl (fun a b => a * 256 + b.toNat) 0

/-! ### The CRC (R184) -/

/-- One bit step of the register for x^16 + x^12 + x^5 + 1, unreflected. -/
def crcBit (c : BitVec 16) : BitVec 16 := if c.msb then (c <<< 1) ^^^ 0x1021#16 else c <<< 1

/-- One byte, most significant bit first. -/
def crcByte (c : BitVec 16) (b : Byte) : BitVec 16 :=
  crcBit (crcBit (crcBit (crcBit (crcBit (crcBit (crcBit (crcBit (c ^^^ (b.setWidth 16 <<< 8)))))))))

/-- The CRC-16 of both ports: register at all ones, no final inversion (R184). -/
def crc16 (bs : List Byte) : BitVec 16 := bs.foldl crcByte 0xFFFF#16

/-- The two CRC characters, high byte first. -/
def crcBytes (bs : List Byte) : List Byte := be16 (crc16 bs).toNat

/-! ### Codes (13.2, 13.3, 13.5) -/

/-- The mode code; the span before a mode is reached has none and is never sent. -/
def Mode.code : Mode → Nat
  | .starting => 0
  | .listen => 1
  | .ready => 2
  | .mute => 3
  | .setupOnly => 4

def Step.code : Step → Nat
  | .idle => 0
  | .filling => 1
  | .setting => 2
  | .cutting => 3
  | .stirring => 4
  | .moulding => 5
  | .stopped => 6

def Step.ofCode : Nat → Option Step
  | 0 => some .idle
  | 1 => some .filling
  | 2 => some .setting
  | 3 => some .cutting
  | 4 => some .stirring
  | 5 => some .moulding
  | 6 => some .stopped
  | _ => none

def Phase.code : Phase → Nat
  | .none => 0
  | .flow => 1
  | .settle => 2
  | .dose => 3
  | .mix => 4
  | .quiet => 5
  | .dwell => 6
  | .ramp => 7
  | .run => 8

def Band.code : Band → Nat
  | .normal => 0
  | .low => 1
  | .starved => 2

def Band.ofCode : Nat → Option Band
  | 0 => some .normal
  | 1 => some .low
  | 2 => some .starved
  | _ => none

def Role.code : Role → Nat
  | .vat => 1
  | .panel => 2

def Role.ofCode : Nat → Option Role
  | 1 => some .vat
  | 2 => some .panel
  | _ => none

def FrameKind.code : FrameKind → Nat
  | .status => 1
  | .order => 2
  | .reply => 3
  | .alert => 4
  | .report => 5

def Verdict.code : Verdict → Nat
  | .accepted => 0
  | .refusedState => 1
  | .refusedSlot => 2
  | .refusedHeads => 3
  | .refusedListen => 4
  | .refusedUnknown => 5

def CutReason.code : CutReason → Nat
  | .predicted => 0
  | .clampedMin => 1
  | .clampedMax => 2
  | .lateDetect => 3
  | .noFloc => 4
  | .sensor => 5
  | .ordered => 6

def BatchOutcome.code : BatchOutcome → Nat
  | .running => 0
  | .vatDone => 1
  | .done => 2
  | .aborted => 3
  | .estop => 4
  | .interrupted => 5

def MonitorState.code : MonitorState → Nat
  | .inactive => 0
  | .mix => 1
  | .watch => 2
  | .armed => 3
  | .pending => 4
  | .due => 5

def DriveState.code : DriveState → Nat
  | .stopped => 0
  | .dwell => 1
  | .starting => 2
  | .running => 3
  | .faulted => 4

def Direction.code : Direction → Nat
  | .stir => 0
  | .cut => 1

def JobKind.code : JobKind → Nat
  | .fillStir => 1
  | .mix => 2
  | .cut => 3
  | .stir => 4

/-- The owner of a job: Fill Unit 1, Coagulation Monitor 2, Batch Sequencer 3 (R122, 13.5). -/
def JobKind.owner : JobKind → Nat
  | .fillStir => 1
  | .mix => 2
  | .cut => 3
  | .stir => 3

/-- The direction of a job (R122). -/
def JobKind.direction : JobKind → Direction
  | .cut => .cut
  | .fillStir => .stir
  | .mix => .stir
  | .stir => .stir

def HeadState.code : HeadState → Nat
  | .free => 0
  | .ramp => 1
  | .hold => 2
  | .vent => 3
  | .unload => 4
  | .out => 5
  | .unfitted => 0xFF

def OutputStage.code : OutputStage → Nat
  | .normal => 0
  | .inverted => 1
  | .forcedOff => 2
  | .released => 3

def Beacon.code : Beacon → Nat
  | .off => 0
  | .slow => 1
  | .fast => 2

def ResponseOutcome.code : ResponseOutcome → Nat
  | .done => 0
  | .failed => 1
  | .unknown => 2

def ResponseResult.code : ResponseResult → Nat
  | .none => 0
  | .check => 1
  | .length => 2
  | .state => 3
  | .range => 4
  | .verify => 5
  | .empty => 6

/-- The number of a kind in Table 10-1. -/
def AlertKind.number : AlertKind → Nat
  | .estop => 1
  | .numberClash => 2
  | .milkStarved => 3
  | .airStarved => 4
  | .headerSensor => 5
  | .knifeStall => 6
  | .knifeDriveFault => 7
  | .meterFault => 8
  | .guardAbort => 9
  | .headOut => 10
  | .firmnessSensor => 11
  | .noFloc => 12
  | .fillSlow => 13
  | .holdUnderpressure => 14
  | .loadLate => 15
  | .loadQueueFull => 16
  | .shortMoulding => 17
  | .batchInterrupted => 18
  | .linkErrors => 19

/-- The minimum level of a kind (Table 10-1). -/
def AlertKind.minLevel : AlertKind → Nat
  | .estop => 3
  | .numberClash => 3
  | .knifeStall => 2
  | .knifeDriveFault => 2
  | .meterFault => 2
  | .milkStarved => 0
  | .airStarved => 0
  | .headerSensor => 0
  | .guardAbort => 0
  | .headOut => 0
  | .firmnessSensor => 0
  | .noFloc => 0
  | .fillSlow => 0
  | .holdUnderpressure => 0
  | .loadLate => 0
  | .loadQueueFull => 0
  | .shortMoulding => 0
  | .batchInterrupted => 0
  | .linkErrors => 0

/-- All kinds in the order of Table 10-1. -/
def AlertKind.all : List AlertKind :=
  [.estop, .numberClash, .milkStarved, .airStarved, .headerSensor, .knifeStall, .knifeDriveFault, .meterFault,
   .guardAbort, .headOut, .firmnessSensor, .noFloc, .fillSlow, .holdUnderpressure, .loadLate, .loadQueueFull,
   .shortMoulding, .batchInterrupted, .linkErrors]

/-- The detail of LINK_ERRORS: 1 for CRC, 2 for framing (13.2). -/
def LinkError.code : LinkError → Nat
  | .crc => 1
  | .framing => 2

/-- The cause-flag bits of 13.5. -/
def CauseFlags.code (f : CauseFlags) : Nat :=
  f.powerOn.toNat + 2 * f.supplyDrop.toNat + 4 * f.resetLine.toNat + 8 * f.restart.toNat

def CauseFlags.ofByte (b : Byte) : CauseFlags :=
  { powerOn := b.getLsbD 0, supplyDrop := b.getLsbD 1, resetLine := b.getLsbD 2, restart := b.getLsbD 3 }

/-- The hold-reason bits of 13.5. -/
def HoldSet.code (h : HoldSet) : Nat :=
  h.order.toNat + 2 * h.line.toNat + 4 * h.alert.toNat + 8 * h.meter.toNat + 16 * h.knife.toNat

/-- The load-flag bits of 13.5. -/
def LoadFlags.code (f : LoadFlags) : Nat :=
  f.late.toNat + 2 * f.underpressure.toNat + 4 * f.guardAbort.toNat + 8 * f.estop.toNat

/-! ### Duration codes (R185) -/

/-- An unlimited duration (R185): a time above every time that the station counts or reckons, so that none reaches it.
All its bits are ones, so that a field which carries it reads as absent (R184; log 55, DEDUCED). -/
def unlimited : Nat := 4294967295

/-- The seconds of a duration code (R185). -/
def duration (c : Nat) : Nat :=
  if c ≤ 120 then c * 5
  else if c ≤ 200 then 600 + (c - 120) * 60
  else if c ≤ 254 then 5400 + (c - 200) * 600
  else unlimited

/-- The first duration is at most the second, as decoded (R185). -/
def durationLe (a b : Nat) : Bool := decide (duration a ≤ duration b)

/-- The first duration is below the second, as decoded. -/
def durationLt (a b : Nat) : Bool := !durationLe b a

/-- A limit: 0 and 255 set none (R95, R140). -/
def durationLimit (c : Nat) : Option Nat := if c = 0 ∨ 255 ≤ c then none else some (duration c)

/-! ### Frames of the link (13.2) -/

/-- A claim's bytes: level, holding flag, waited steps, request, floor. -/
def Claim.bytes (c : Claim) : List Byte :=
  [byte c.level] ++ flag c.holding ++ [byte c.waited] ++ be16 c.request ++ be16 c.floor

/-- The bytes of an optional claim in a STATUS: nothing when absent. -/
def claimBytes : Option Claim → List Byte
  | none   => []
  | some c => c.bytes

/-- The claim-presence byte: 0 none, 1 milk, 2 air, 3 both. -/
def presenceCode (milk air : Option Claim) : Nat := milk.isSome.toNat + 2 * air.isSome.toNat

/-- A STATUS body. -/
def statusBytes (modeCode : Nat) (r : Reported) : List Byte :=
  [byte r.role.code, byte modeCode] ++ be16 r.batchNumber ++ [byte r.step.code] ++ flag r.held
    ++ [byte r.milkBand.code, byte r.airBand.code, byte r.usableHeads] ++ beOpt8 r.highest
    ++ [byte (presenceCode r.milkClaim r.airClaim)] ++ claimBytes r.milkClaim ++ claimBytes r.airClaim

/-- The characters of a frame on the line (13.2). -/
def TxFrame.characters (f : TxFrame) (sender seq : Nat) : List Byte :=
  let inner := [byte sender, byte f.dest, byte f.kind.code, byte seq, byte f.body.length] ++ f.body
  0x7E#8 :: inner ++ crcBytes inner

/-- A flag byte; anything but 0 and 1 is outside its values (R21). -/
def flagOfByte (b : Byte) : Option Bool :=
  if b = 0#8 then some false else if b = 1#8 then some true else none

/-- A claim's seven bytes, none outside the defined values (R21). -/
def parseClaim : List Byte → Option Claim
  | [lv, ho, wa, r1, r0, f1, f0] =>
    match flagOfByte ho with
    | none => none
    | some holding =>
      let request := fromBytes [r1, r0]
      let floor := fromBytes [f1, f0]
      if lv.toNat ≤ 3 ∧ 1 ≤ request ∧ request ≤ 4000 ∧ floor ≤ request then
        some { level := lv.toNat, holding := holding, waited := wa.toNat, request := request, floor := floor }
      else none
  | _ => none

/-- The claims a presence byte names, none where it disagrees with the length or a claim is malformed (R21). -/
def parseClaims (presence : Nat) (bs : List Byte) : Option (Option Claim × Option Claim) :=
  match presence, bs.length with
  | 0, 0 => some (none, none)
  | 1, 7 => (parseClaim bs).map fun c => (some c, none)
  | 2, 7 => (parseClaim bs).map fun c => (none, some c)
  | 3, 14 =>
    match parseClaim (bs.take 7), parseClaim (bs.drop 7) with
    | some m, some a => some (some m, some a)
    | _, _ => none
  | _, _ => none

/-- The highest alert level: FF hex for absent, else 0 to 3 (R21, 13.2). -/
def parseHighest (b : Byte) : Option (Option Nat) :=
  if b = 0xFF#8 then some none else if b.toNat ≤ 3 then some (some b.toNat) else none

/-- A STATUS body read as R21 judges it: none when malformed. -/
def parseStatus : List Byte → Option Reported
  | role :: mode :: b1 :: b0 :: step :: held :: milkBand :: airBand :: heads :: highest :: presence :: claims =>
    match Role.ofCode role.toNat, Step.ofCode step.toNat, flagOfByte held, Band.ofCode milkBand.toNat,
      Band.ofCode airBand.toNat, parseHighest highest, parseClaims presence.toNat claims with
    | some ro, some st, some he, some mb, some ab, some hi, some (mc, ac) =>
      if (mode = 1#8 ∨ mode = 2#8) ∧ heads.toNat ≤ 4 then
        some { role := ro, ready := mode = 2#8, batchNumber := fromBytes [b1, b0], step := st, held := he,
               milkBand := mb, airBand := ab, usableHeads := heads.toNat, highest := hi, milkClaim := mc,
               airClaim := ac }
      else none
    | _, _, _, _, _, _, _ => none
  | _ => none

/-- The lengths R13 allows for a kind: those of 13.2 for the five kinds, any for another. -/
def lengthAllowed (kind length : Nat) : Bool :=
  match kind with
  | 1 => length == 11 || length == 18 || length == 25
  | 2 => length == 3
  | 3 => length == 3
  | 4 => length == 7
  | 5 => length == 20
  | _ => true

/-- The judgement on a run at its expected end (R13). `broken` is no run of that shape at all. -/
inductive Judged where
  | broken
  | badCrc
  | badFraming
  | valid (f : RxFrame)
deriving DecidableEq, Repr

/-- Whether the characters are a run that has reached its expected end: the sync byte first, a length of at most 48 and
8 + length characters (R12). -/
def runComplete : List Byte → Bool
  | sync :: _ :: _ :: _ :: _ :: len :: rest => sync == 0x7E#8 && decide (len.toNat ≤ 48) && rest.length == len.toNat + 2
  | _ => false

/-- The checks of R13 in their order: CRC, sender, length. -/
def judgeRun (run : List Byte) : Judged :=
  if !runComplete run then .broken
  else
    match run with
    | _ :: sender :: dest :: kind :: seq :: len :: rest =>
      let body := rest.take len.toNat
      if crcBytes ([sender, dest, kind, seq, len] ++ body) ≠ rest.drop len.toNat then .badCrc
      else if sender.toNat < 1 ∨ 32 < sender.toNat then .badFraming
      else if !lengthAllowed kind.toNat len.toNat then .badFraming
      else .valid { sender := sender.toNat, dest := dest.toNat, kind := kind.toNat, seq := seq.toNat, body := body }
    | _ => .broken

/-! ### Frames of the setup port (13.3) -/

/-- The characters of a command frame. -/
def commandCharacters (code : Byte) (body : List Byte) (crc : BitVec 16) : List Byte :=
  0xC3#8 :: code :: byte body.length :: body ++ be16 crc.toNat

/-- The CRC a command frame must carry: over the command code through the end of the body (R184). -/
def commandCrc (code : Byte) (body : List Byte) : BitVec 16 := crc16 (code :: byte body.length :: body)

/-- The characters of a response frame; its CRC covers the outcome through the end of the body (R184). -/
def Response.characters (r : Response) : List Byte :=
  let inner := [byte r.outcome.code, r.code, byte r.result.code] ++ be16 r.body.length ++ r.body
  0xC5#8 :: inner ++ crcBytes inner

/-- The command codes of 13.3. -/
def commandKnown (code : Byte) : Bool :=
  let c := code.toNat
  (decide (1 ≤ c) && decide (c ≤ 5)) || (decide (0x10 ≤ c) && decide (c ≤ 0x1A)) || c == 0x20 || c == 0x21 || c == 0x22 || c == 0x30

/-! ### Records as read (13.5) -/

/-- A batch record's 37 bytes. -/
def BatchRecord.bytes (r : BatchRecord) : List Byte :=
  be16 r.number ++ [byte r.slot] ++ be32 r.startTime ++ [byte r.step.code, byte r.phase.code] ++ be32 r.stepStart
    ++ be32 r.filled ++ beInt32 r.overrun ++ beOpt16 r.flocTime ++ be16 r.cutTime ++ [byte r.cutReason.code]
    ++ be32 r.lateness ++ [byte r.made, byte r.untracked, byte r.pressed, byte r.flagged, byte r.outcome.code]
    ++ beOpt8 (r.firstFault.map Step.code) ++ flag r.laneClosed

/-- The waited time of a load in whole seconds (R140). -/
def Load.waited (l : Load) : Nat := l.waitedMs / 1000

/-- A load record's 15 bytes (13.5). -/
def Load.bytes (l : Load) : List Byte :=
  be32 l.sequence ++ be16 l.batchNumber ++ [byte l.slot] ++ be32 l.madeTime ++ be16 l.waited ++ be16 l.flags.code

/-- Whether a load carries any flag (R77). -/
def LoadFlags.any (f : LoadFlags) : Bool := f.late || f.underpressure || f.guardAbort || f.estop

/-- A REPORT body from a history record (R82, 13.2). -/
def BatchRecord.reportBody (r : BatchRecord) : List Byte :=
  be16 r.number ++ [byte r.slot] ++ be32 (r.filled / 1000) ++ beInt32 r.overrun ++ beOpt16 r.flocTime
    ++ be16 r.cutTime ++ [byte r.cutReason.code, byte r.made, byte r.pressed, byte r.flagged, byte r.outcome.code]

/-! ### Counting -/

/-- A counter that stops at its greatest value (1.6, Saturation). -/
def satAdd (cap n k : Nat) : Nat := min cap (n + k)

/-- Clamp a signed value to 0..1000, a duty (R90, R146). -/
def clampDuty (i : Int) : Nat := min 1000 i.toNat

/-! ### Settings codes (13.4) -/

/-- Whether an edge is one of the sensitivity set (R86): RISING 1, FALLING 2, BOTH 3; any other code is free (log 51,
DESIGN CHOICE). -/
def countsEdge (code : Nat) (rising : Bool) : Bool :=
  if code = 1 then rising else if code = 2 then !rising else if code = 3 then true else Config.strayEdge code rising

/-- A one-byte choice of two: code 0 is no, 1 is yes, and any other is as `stray` gives it. -/
def choiceOf (stray : Nat → Bool) (code : Nat) : Bool := if code = 0 then false else if code = 1 then true else stray code

/-- Whether each head's valve sense is INVERTED (R146): NORMAL 0, INVERTED 1; any other code is free (log 51, DESIGN
CHOICE). -/
def LineSettings.inverted (l : LineSettings) : Four Bool :=
  { h1 := choiceOf Config.straySense l.sense.h1, h2 := choiceOf Config.straySense l.sense.h2,
    h3 := choiceOf Config.straySense l.sense.h3, h4 := choiceOf Config.straySense l.sense.h4 }

/-- Whether the guard mode is VENT (R158): HOLD 0, VENT 1; any other code is free (log 51, DESIGN CHOICE). -/
def PressSettings.guardVents (p : PressSettings) : Bool := choiceOf Config.strayGuardMode p.guardMode

/-- Whether the present mark is set (R64): clear 0, set 1; any other byte is free (log 51, DESIGN CHOICE). -/
def Recipe.isPresent (r : Recipe) : Bool := choiceOf Config.strayMark r.presentMark

/-! ### Four of a kind -/

/-- The thing of a head (R144). -/
def Four.get {α : Type} (f : Four α) (h : HeadNo) : α :=
  if h = 0 then f.h1 else if h = 1 then f.h2 else if h = 2 then f.h3 else f.h4

/-- Put the thing of one head. -/
def Four.set {α : Type} (f : Four α) (h : HeadNo) (x : α) : Four α :=
  if h = 0 then { f with h1 := x } else if h = 1 then { f with h2 := x }
  else if h = 2 then { f with h3 := x } else { f with h4 := x }

/-- Apply to all four. -/
def Four.map {α β : Type} (g : α → β) (f : Four α) : Four β :=
  { h1 := g f.h1, h2 := g f.h2, h3 := g f.h3, h4 := g f.h4 }

def Four.toList {α : Type} (f : Four α) : List α := [f.h1, f.h2, f.h3, f.h4]

/-- Four of the same. -/
def Four.all {α : Type} (x : α) : Four α := { h1 := x, h2 := x, h3 := x, h4 := x }

/-- The head number of a place, 1 to 4. -/
def headNumber (h : HeadNo) : Nat := h.val + 1

/-- The four places in order. -/
def headNos : List HeadNo := [0, 1, 2, 3]

end Sys2Proof.Machine
end

