-- ==== Sys2Proof/Machine/Settings.lean ====
section
/-! DEFINITION. The eleven settings sections: layouts (13.4), defaults (Table 11-3), ranges (R32, R99, R119, R131,
R162, R163, R175), and their reading into the running configuration and back. -/

namespace Sys2Proof.Machine

/-! ### Layouts -/

def poolWidths : List Nat := [2, 2, 2, 2, 2, 2]

def stageWidths : List Nat := [2, 2, 1]

/-- A RECIPE section's widths up to the stage count. -/
def recipeHeadWidths : List Nat :=
  [1, 1, 1, 1] ++ [1, 2, 2, 2, 2, 2, 2, 1, 1] ++ [1, 2, 1, 2, 1, 1, 1, 1] ++ [2, 1, 1, 2, 1] ++ [1, 1]

def recipeWidths : List Nat :=
  recipeHeadWidths ++ stageWidths ++ stageWidths ++ stageWidths ++ stageWidths ++ stageWidths ++ stageWidths

/-- The field widths of a section, in layout order (13.4); empty outside 1 to 11. -/
def sectionWidths (n : Nat) : List Nat :=
  match n with
  | 1 => [1, 1]
  | 2 => [1]
  | 3 => poolWidths ++ poolWidths
  | 4 => [1, 1, 1, 1, 1, 1, 1, 1, 1]
  | 5 => [2, 2, 1]
  | 6 => [1, 2, 1, 1, 1, 1, 1, 1]
  | 7 => [1, 1, 1, 1, 1, 1, 1, 1, 1, 1, 1, 1, 1, 1, 1, 1, 1, 1, 1]
  | 8 => recipeWidths
  | 9 => recipeWidths
  | 10 => recipeWidths
  | 11 => recipeWidths
  | _ => []

def sectionSize (n : Nat) : Nat := (sectionWidths n).sum

/-- Whether the number is that of a section (R174, R175). -/
def sectionNumber (n : Nat) : Bool := decide (1 ≤ n) && decide (n ≤ 11)

/-- Read fields of the given widths. -/
def parseFields : List Nat → List Byte → List Nat
  | [], _ => []
  | w :: ws, bs => fromBytes (bs.take w) :: parseFields ws (bs.drop w)

/-- A field of one or two bytes. -/
def fieldBytes (w n : Nat) : List Byte := if w = 1 then [byte n] else be16 n

/-- Write fields of the given widths. -/
def layFields : List Nat → List Nat → List Byte
  | w :: ws, n :: ns => fieldBytes w n ++ layFields ws ns
  | _, _ => []

/-! ### Defaults (Table 11-3) -/

def defaultPoolFields : List Nat := [0, 1000, 200, 250, 100, 150]

def defaultRecipeFields : List Nat :=
  [0, 1, 0, 0] ++ [0, 0, 0, 100, 0, 0, 0, 0, 1] ++ [0, 0, 6, 1, 16, 0, 0, 1] ++ [1, 1, 0, 1, 0] ++ [0, 1]
    ++ [0, 1, 0] ++ [0, 0, 0, 0, 0, 0, 0, 0, 0, 0, 0, 0, 0, 0, 0]

/-- The default fields of a section; the alert levels are the kinds' minimums. -/
def defaultFields (n : Nat) : List Nat :=
  match n with
  | 1 => [1, 0]
  | 2 => [5]
  | 3 => defaultPoolFields ++ defaultPoolFields
  | 4 => [1, 1, 1, 1, 5, 0, 0, 0, 0]
  | 5 => [100, 50, 32]
  | 6 => [4, 150, 64, 32, 15, 20, 3, 0]
  | 7 => AlertKind.all.map AlertKind.minLevel
  | 8 => defaultRecipeFields
  | 9 => defaultRecipeFields
  | 10 => defaultRecipeFields
  | 11 => defaultRecipeFields
  | _ => []

/-- The default contents ERASE SETTINGS programs (R176). -/
def defaultContents (n : Nat) : List Byte := layFields (sectionWidths n) (defaultFields n)

/-! ### Ranges -/

def within (lo hi n : Nat) : Bool := decide (lo ≤ n) && decide (n ≤ hi)

/-- A pool's six fields: C, FS and the four thresholds in 1 to FS with the three orderings of R32. A broken ordering
marks both its fields, so the earlier of them is named (log 18, DEDUCED). -/
def poolChecks : List Nat → List Bool
  | [c, fs, le, ll, se, sl] =>
    [within 0 4000 c, within 100 1600 fs,
     within 1 fs le && decide (se < le) && decide (le < ll),
     within 1 fs ll && decide (le < ll),
     within 1 fs se && decide (se < le) && decide (se < sl),
     within 1 fs sl && decide (se < sl)]
  | _ => [false]

/-- Stage n of a schedule of `count` stages (R162). -/
def stageChecks (count n p r h : Nat) : List Bool :=
  if n ≤ count then [within 0 600 p, within 1 600 r, within 0 254 h]
  else [p == 0, r == 0, h == 0]

def stagesChecks (count : Nat) : Nat → List Nat → List Bool
  | n, p :: r :: h :: rest => stageChecks count n p r h ++ stagesChecks count (n + 1) rest
  | _, _ => []

/-- A RECIPE section's fields (R99, R119, R131, R162, R185, Table 11-2). The close allowance below the target and the
cover up to it are their own ranges (Table 5-2); a broken relation between the durations marks both its fields (log 18,
DEDUCED). -/
def recipeChecks : List Nat → List Bool
  | mark :: heads :: loads :: wait :: level :: rate :: floor :: target :: allow :: cover :: fillStir :: limit ::
    dose :: mixT :: mixS :: period :: slope :: mult :: tMin :: tFall :: tMax :: cutS :: cutD :: rampT :: stirS ::
    stirT :: press :: count :: stages =>
    let minOk := durationLe tMin tFall
    let fallOk := durationLe tFall tMax
    let mixOk := durationLt mixT tMax
    [within 0 1 mark, within 1 4 heads, within 0 24 loads, within 0 255 wait, within 0 3 level, within 0 4000 rate,
     within 0 4000 floor, within 100 60000 target, within 0 5000 allow && decide (allow < target),
     within 0 target cover, within 0 1000 fillStir, within 0 255 limit, within 1 120 dose,
     within 0 254 mixT && mixOk, within 0 1000 mixS, within 2 30 period, within 1 4095 slope, within 16 64 mult,
     within 0 254 tMin && minOk, within 0 254 tFall && minOk && fallOk, within 1 254 tMax && fallOk && mixOk,
     within 1 1000 cutS, within 1 254 cutD, within 0 254 rampT, within 1 1000 stirS, within 0 254 stirT,
     within 0 3 press, within 1 6 count] ++ stagesChecks count 1 stages
  | _ => [false]

/-- For each field of a section in layout order, whether it is in range and breaks no relation. -/
def sectionChecks (n : Nat) (fs : List Nat) : List Bool :=
  match n, fs with
  | 1, [number, slot] => [within 1 32 number, within 0 4 slot]
  | 2, [timeout] => [within 3 15 timeout]
  | 3, fs => poolChecks (fs.take 6) ++ poolChecks (fs.drop 6)
  | 4, [m, t, l, s, d, v1, v2, v3, v4] =>
    [within 1 3 m, within 1 3 t, within 1 3 l, within 1 3 s, within 1 10 d, within 0 1 v1, within 0 1 v2, within 0 1 v3,
     within 0 1 v4]
  | 5, [pulse, ramp, gain] => [within 1 10000 pulse, within 10 500 ramp, within 1 255 gain]
  | 6, [fitted, a, kf, kp, band, time, limit, mode] =>
    [within 1 4 fitted, within 1 4000 a, within 0 255 kf, within 0 255 kp, within 1 100 band, within 5 120 time,
     within 1 15 limit, within 0 1 mode]
  | 7, fs => fs.map (within 0 3)
  | 8, fs => recipeChecks fs
  | 9, fs => recipeChecks fs
  | 10, fs => recipeChecks fs
  | 11, fs => recipeChecks fs
  | _, _ => [false]

/-- The 1-based position of the first field out of range, 0 when all are in range. -/
def firstBad : Nat → List Bool → Nat
  | _, [] => 0
  | n, b :: bs => if b then firstBad (n + 1) bs else n

/-- The position that WRITE SETTINGS names for a section's contents, 0 when they may be written (R175). -/
def rangeFault (n : Nat) (contents : List Byte) : Nat :=
  firstBad 1 (sectionChecks n (parseFields (sectionWidths n) contents))

/-! ### Reading into the running configuration (R178, R181)

Each field is taken at the value that its section stores, whatever the value, so that the running configuration is the
stored settings of the start; what a code means is read from it where it is used (log 51). -/

def poolOf (fs : List Nat) : PoolSettings :=
  { capacity := fs.getD 0 0, fullScale := fs.getD 1 0, lowEnter := fs.getD 2 0, lowLeave := fs.getD 3 0,
    starvedEnter := fs.getD 4 0, starvedLeave := fs.getD 5 0 }

def poolFields (p : PoolSettings) : List Nat :=
  [p.capacity, p.fullScale, p.lowEnter, p.lowLeave, p.starvedEnter, p.starvedLeave]

def linesOf (fs : List Nat) : LineSettings :=
  { meter := fs.getD 0 0, turn := fs.getD 1 0, loadDone := fs.getD 2 0, start := fs.getD 3 0, reverseDwell := fs.getD 4 0,
    sense := { h1 := fs.getD 5 0, h2 := fs.getD 6 0, h3 := fs.getD 7 0, h4 := fs.getD 8 0 } }

def linesFields (l : LineSettings) : List Nat :=
  [l.meter, l.turn, l.loadDone, l.start, l.reverseDwell, l.sense.h1, l.sense.h2, l.sense.h3, l.sense.h4]

def fillOf (fs : List Nat) : FillSettings :=
  { pulseVolume := fs.getD 0 0, rampStep := fs.getD 1 0, gain := fs.getD 2 0 }

def fillFields (f : FillSettings) : List Nat := [f.pulseVolume, f.rampStep, f.gain]

def pressOf (fs : List Nat) : PressSettings :=
  { fitted := fs.getD 0 0, rampAir := fs.getD 1 0, kf := fs.getD 2 0, kp := fs.getD 3 0, holdBand := fs.getD 4 0,
    holdFaultTime := fs.getD 5 0, failLimit := fs.getD 6 0, guardMode := fs.getD 7 0 }

def pressFields (p : PressSettings) : List Nat :=
  [p.fitted, p.rampAir, p.kf, p.kp, p.holdBand, p.holdFaultTime, p.failLimit, p.guardMode]

def stagesOf : List Nat → List Stage
  | p :: r :: h :: rest => { pressure := p, rate := r, hold := h } :: stagesOf rest
  | _ => []

def stagesFields : List Stage → List Nat
  | [] => []
  | g :: gs => g.pressure :: g.rate :: g.hold :: stagesFields gs

def recipeOf (fs : List Nat) : Recipe :=
  { presentMark := fs.getD 0 0, minHeads := fs.getD 1 0, loadsCount := fs.getD 2 0, maxWait := fs.getD 3 0,
    fillLevel := fs.getD 4 0, fillRate := fs.getD 5 0, fillFloor := fs.getD 6 0, target := fs.getD 7 0,
    allowance := fs.getD 8 0, cover := fs.getD 9 0, fillStir := fs.getD 10 0, fillLimit := fs.getD 11 0,
    doseTime := fs.getD 12 0, mixTime := fs.getD 13 0, mixSpeed := fs.getD 14 0, period := fs.getD 15 0,
    minSlope := fs.getD 16 0, multiplier := fs.getD 17 0, tMin := fs.getD 18 0, tFallback := fs.getD 19 0,
    tMax := fs.getD 20 0, cutSpeed := fs.getD 21 0, cutDuration := fs.getD 22 0, rampTime := fs.getD 23 0,
    stirSpeed := fs.getD 24 0, stirTime := fs.getD 25 0, pressLevel := fs.getD 26 0, stageCount := fs.getD 27 0,
    stages := stagesOf (fs.drop 28) }

def recipeFields (r : Recipe) : List Nat :=
  [r.presentMark, r.minHeads, r.loadsCount, r.maxWait, r.fillLevel, r.fillRate, r.fillFloor, r.target, r.allowance,
   r.cover, r.fillStir, r.fillLimit, r.doseTime, r.mixTime, r.mixSpeed, r.period, r.minSlope, r.multiplier, r.tMin,
   r.tFallback, r.tMax, r.cutSpeed, r.cutDuration, r.rampTime, r.stirSpeed, r.stirTime, r.pressLevel, r.stageCount]
  ++ stagesFields r.stages

/-- The fields of section n among eleven contents. -/
def fieldsOf (contents : List (List Byte)) (n : Nat) : List Nat :=
  parseFields (sectionWidths n) (contents.getD (n - 1) [])

/-- The running configuration taken from the eleven sections' contents. -/
def loadConfig (contents : List (List Byte)) : RunConfig :=
  let f := fieldsOf contents
  { stationNumber := (f 1).getD 0 0, localSlot := (f 1).getD 1 0, peerTimeout := (f 2).getD 0 0,
    milk := poolOf ((f 3).take 6), air := poolOf ((f 3).drop 6), lines := linesOf (f 4), fill := fillOf (f 5),
    press := pressOf (f 6), alertLevels := f 7,
    recipes := { h1 := recipeOf (f 8), h2 := recipeOf (f 9), h3 := recipeOf (f 10), h4 := recipeOf (f 11) } }

/-- The fields of section n as the running configuration holds them. -/
def configFields (c : RunConfig) (n : Nat) : List Nat :=
  match n with
  | 1 => [c.stationNumber, c.localSlot]
  | 2 => [c.peerTimeout]
  | 3 => poolFields c.milk ++ poolFields c.air
  | 4 => linesFields c.lines
  | 5 => fillFields c.fill
  | 6 => pressFields c.press
  | 7 => c.alertLevels
  | 8 => recipeFields c.recipes.h1
  | 9 => recipeFields c.recipes.h2
  | 10 => recipeFields c.recipes.h3
  | 11 => recipeFields c.recipes.h4
  | _ => []

/-- Section n of the running configuration in its layout (R174). -/
def configContents (c : RunConfig) (n : Nat) : List Byte := layFields (sectionWidths n) (configFields c n)

/-- The recipe of a slot 1 to 4 of the running configuration. -/
def RunConfig.recipe (c : RunConfig) (slot : Nat) : Option Recipe :=
  match slot with
  | 1 => some c.recipes.h1
  | 2 => some c.recipes.h2
  | 3 => some c.recipes.h3
  | 4 => some c.recipes.h4
  | _ => none

/-- The settings of a pool. -/
def RunConfig.pool (c : RunConfig) (p : Pool) : PoolSettings :=
  match p with
  | .milk => c.milk
  | .air => c.air

/-- The sections in order. -/
def sectionNos : List Nat := [1, 2, 3, 4, 5, 6, 7, 8, 9, 10, 11]

end Sys2Proof.Machine
end

