-- ==== Sys2Proof/Machine/State.lean ====
section
/-! DEFINITION. The state of the station as plain data, and the machine right after a reset. -/

namespace Sys2Proof.Machine

/-- The levels on the input lines (Table 1). They come from outside and no reset moves them. -/
structure Lines where
  hold       : Bool
  estop      : Bool
  vatEmpty   : Bool
  driveFault : Bool
  guardOpen  : Bool
  reset      : Bool
  meter      : Bool
  turn       : Bool
  loadDone   : Bool
  start      : Bool
  milkTap    : Raw
  airTap     : Raw
  firmness   : Raw
  pressure   : Four Raw
deriving DecidableEq, Repr

/-- The Start-Up Controller (chapter 12). -/
structure StartState where
  mode      : Mode
  causes    : List Cause
  flags     : CauseFlags
  stationMs : Nat
  listenMs  : Nat
deriving DecidableEq, Repr

/-- The Link Controller (chapter 1). -/
structure LinkState where
  queue         : List TxFrame
  flight        : Option Flight
  nextSeq       : Nat
  receive       : Receive
  framesGood    : Nat
  crcErrors     : Nat
  framingErrors : Nat
  collisions    : Nat
  txDropped     : Nat
  queueOverrun  : Nat
  tally         : Nat
  lastError     : Option LinkError
  opening       : Bool
  openingMs     : Nat
  sinceBuildMs  : Nat
  changed       : Bool
deriving DecidableEq, Repr

/-- The Peer Table (chapter 2). -/
structure PeerTable where
  records   : List PeerRecord
  malformed : Nat
deriving DecidableEq, Repr

/-- The Share Unit's state for one pool (Table 3-1). -/
structure PoolState where
  band         : Band
  degraded     : Bool
  belowLow     : Nat
  atLowLeave   : Nat
  belowStarved : Nat
  atStarvedLeave : Nat
  sensorRun    : Nat
  goodRun      : Nat
  lastSample   : Sample
  own          : Option OwnClaim
  carried      : Option Claim
  grant        : Nat
  last         : Reckoned
deriving DecidableEq, Repr

/-- The Batch Sequencer (R58). The batch history stands in the store. -/
structure SeqState where
  step          : Step
  phase         : Phase
  hold          : HoldSet
  current       : Current
  counter       : Nat
  refusedStarts : Nat
  outlet        : Bool
  fillerRequest : Bool
deriving DecidableEq, Repr

/-- The Fill Unit (Table 5-1); `duty` is MILK VALVE and `dosePump` DOSE PUMP. -/
structure FillState where
  totaliser   : Nat
  spanOpen    : Bool
  stray       : Nat
  window      : Nat
  qMeas       : Nat
  grant       : Nat
  qCmd        : Nat
  duty        : Nat
  flowElapsed : Nat
  slowRaised  : Bool
  noPulse     : Nat
  settle      : Nat
  dosed       : Nat
  stirJob     : Bool
  dosePump    : Bool
deriving DecidableEq, Repr

/-- The Coagulation Monitor (Tables 6-1 and 6-2). `secondFallen` is the model's own: the next set-clock second has
fallen and its SET_CLOCK_SECOND has not been taken (log 26, DESIGN CHOICE). -/
structure CoagState where
  state      : MonitorState
  clock      : Nat
  ticking    : Bool
  clockMs    : Nat
  secondFallen : Bool
  mixTimer   : Nat
  quietStart : Nat
  index      : Nat
  lastMean   : Nat
  window     : List Nat
  readings   : List Nat
  sampleMs   : Nat
  lastRaw    : Nat
  railRun    : Nat
  slope      : Option Int
  peak       : Nat
  peakIndex  : Nat
  flocTime   : Option Nat
  detectTime : Option Nat
  cutAt      : Option Nat
  reason     : CutReason
  mixJob     : Bool
  dueAt      : Nat
deriving DecidableEq, Repr

/-- The Knife Drive Unit (Tables 7-1 and 7-2); `run`, `reverse` and `speed` are its outputs. -/
structure KnifeState where
  state      : DriveState
  job        : Option Job
  continuing : Bool
  restDir    : Direction
  offMs      : Nat
  graceMs    : Nat
  stallMs    : Nat
  secondMs   : Nat
  cutElapsed  : Nat
  rampElapsed : Nat
  stirElapsed : Nat
  turns      : Nat
  run        : Bool
  reverse    : Direction
  speed      : Nat
deriving DecidableEq, Repr

/-- The Load Queue (Table 8-1). -/
structure QueueState where
  loads     : List Load
  counter   : Nat
  filled    : Nat
  queueHold : Bool
  stray     : Nat
deriving DecidableEq, Repr

/-- A press head (Tables 9-1 and 9-2), its output stage in effect and the level on its VALVE line (R146). -/
structure Head where
  state       : HeadState
  load        : Option Load
  stage       : Nat
  target      : Nat
  accumulator : Nat
  holdTimer   : Nat
  faultSteps  : Nat
  under       : Bool
  ventSteps   : Nat
  duty        : Nat
  pressure    : Nat
  pendingOut  : Bool
  failCount   : Nat
  occupied    : Bool
  badAtStart  : Bool
  served      : Bool
  output      : OutputStage
  line        : Nat
  periodMs    : Nat
deriving DecidableEq, Repr

/-- The Press Heads (chapter 9). -/
structure PressState where
  heads    : Four Head
  airGrant : Nat
deriving DecidableEq, Repr

/-- The Alert Unit (chapter 10). -/
structure AlertState where
  pending : List AlertRecord
  beacon  : Beacon
deriving DecidableEq, Repr

/-- The Setup Port (R171). -/
structure PortState where
  mode      : PortMode
  buffer    : List Byte
  discard   : Nat
  abandoned : Nat
  response  : Option Response
  work      : PortWork
deriving DecidableEq, Repr

/-- The retained store (R177): settings sections 1 to 11 in order, head table, history oldest first, checkpoint and
cause flags. -/
structure Store where
  sections   : List (Slot (List Byte))
  headTable  : Four (Slot HeadRecord)
  history    : List (Slot BatchRecord)
  checkpoint : Slot Checkpoint
  causes     : Slot CauseFlags
deriving DecidableEq, Repr

/-- The station, with the queue of commands that wait and the count of free values taken. -/
structure State where
  pending : List Instr
  lines   : Lines
  start   : StartState
  config  : Option RunConfig
  link    : LinkState
  peers   : PeerTable
  milk    : PoolState
  air     : PoolState
  seq     : SeqState
  fill    : FillState
  coag    : CoagState
  knife   : KnifeState
  queue   : QueueState
  press   : PressState
  alerts  : AlertState
  port    : PortState
  store   : Store
  free    : Nat
deriving DecidableEq, Repr

/-- The manual stops the station nowhere: every fault it describes is state (an alert, a hold, a mode, a counter). No
command raises one, so there is no constructor. -/
inductive Fault where
deriving DecidableEq, Repr

/-- Why a command has no outcome. -/
inductive Refusal where
  /-- Raised by `exec` for a row without a meaning; no row has one. Safe: nothing is claimed of such a step. -/
  | notModelled (mnemonic : String)
deriving DecidableEq, Repr

/-! ### Reset values -/

def StartState.init (causes : List Cause) : StartState :=
  { mode := .starting, causes := causes,
    flags := { powerOn := false, supplyDrop := false, resetLine := false, restart := false }, stationMs := 0, listenMs := 0 }

/-- R5, R6, R11, R12, R15. No rule gives the last error kind a value at reset; the model's is none (log 8, DESIGN
CHOICE). -/
def LinkState.init : LinkState :=
  { queue := [], flight := none, nextSeq := 0, receive := .ignoring, framesGood := 0, crcErrors := 0, framingErrors := 0,
    collisions := 0, txDropped := 0, queueOverrun := 0, tally := 0, lastError := none, opening := false, openingMs := 0,
    sinceBuildMs := 0, changed := false }

/-- R19, R21. -/
def PeerTable.init : PeerTable := { records := [], malformed := 0 }

/-- Table 3-1. -/
def PoolState.init : PoolState :=
  { band := .normal, degraded := false, belowLow := 0, atLowLeave := 0, belowStarved := 0, atStarvedLeave := 0,
    sensorRun := 0, goodRun := 0, lastSample := .kpa 0, own := none, carried := none, grant := 0,
    last := { derate := 8, effective := 0, rank := 0, candidates := 0, remainder := 0 } }

def HoldSet.clear : HoldSet := { order := false, line := false, alert := false, meter := false, knife := false }

/-- R58; the counter is taken from the store at the start (R79). -/
def SeqState.init : SeqState :=
  { step := .idle, phase := .none, hold := HoldSet.clear, current := .none, counter := 0, refusedStarts := 0,
    outlet := false, fillerRequest := false }

/-- Table 5-1. -/
def FillState.init : FillState :=
  { totaliser := 0, spanOpen := false, stray := 0, window := 0, qMeas := 0, grant := 0, qCmd := 0, duty := 0,
    flowElapsed := 0, slowRaised := false, noPulse := 0, settle := 0, dosed := 0, stirJob := false, dosePump := false }

/-- Table 6-2. The last raw reading, which READ FIRMNESS gives and the table does not list, starts at 0 (log 8, DESIGN
CHOICE). -/
def CoagState.init : CoagState :=
  { state := .inactive, clock := 0, ticking := false, clockMs := 0, secondFallen := false, mixTimer := 0,
    quietStart := 0, index := 0, lastMean := 0, window := [], readings := [], sampleMs := 0, lastRaw := 0, railRun := 0,
    slope := none, peak := 0, peakIndex := 0, flocTime := none, detectTime := none, cutAt := none, reason := .predicted,
    mixJob := false, dueAt := 0 }

/-- Table 7-2. -/
def KnifeState.init : KnifeState :=
  { state := .stopped, job := none, continuing := false, restDir := .stir, offMs := 0, graceMs := 0, stallMs := 0,
    secondMs := 0, cutElapsed := 0, rampElapsed := 0, stirElapsed := 0, turns := 0, run := false, reverse := .stir,
    speed := 0 }

/-- Table 8-1. -/
def QueueState.init : QueueState := { loads := [], counter := 0, filled := 0, queueHold := false, stray := 0 }

/-- R161: no state of the six, output RELEASED, every item 0, none or clear. -/
def Head.init : Head :=
  { state := .unfitted, load := none, stage := 0, target := 0, accumulator := 0, holdTimer := 0, faultSteps := 0,
    under := false, ventSteps := 0, duty := 0, pressure := 0, pendingOut := false, failCount := 0, occupied := false,
    badAtStart := false, served := false, output := .released, line := 0, periodMs := 0 }

def PressState.init : PressState :=
  { heads := { h1 := Head.init, h2 := Head.init, h3 := Head.init, h4 := Head.init }, airGrant := 0 }

/-- R163. -/
def AlertState.init : AlertState := { pending := [], beacon := .off }

/-- R171. -/
def PortState.init : PortState :=
  { mode := .unserved, buffer := [], discard := 0, abandoned := 0, response := none, work := .none }

/-- A record as delivered or as a completed write leaves it. -/
def Slot.settled {α : Type} (x : α) : Slot α := { stored := x, good := true, inFlight := none, next := none }

/-- The store as delivered (R177); the settings sections hold the defaults of Table 11-3 (log 9, DESIGN CHOICE). -/
def Store.delivered : Store :=
  { sections := sectionNos.map fun n => Slot.settled (defaultContents n),
    headTable :=
      { h1 := Slot.settled { failCount := 0, occupied := false }, h2 := Slot.settled { failCount := 0, occupied := false },
        h3 := Slot.settled { failCount := 0, occupied := false }, h4 := Slot.settled { failCount := 0, occupied := false } },
    history := [],
    checkpoint := Slot.settled { lastNumber := 0, record := none },
    causes := Slot.settled { powerOn := false, supplyDrop := false, resetLine := false, restart := false } }

/-- Input lines with nothing on them (log 10, DESIGN CHOICE). -/
def Lines.quiet : Lines :=
  { hold := false, estop := false, vatEmpty := false, driveFault := false, guardOpen := false, reset := false,
    meter := false, turn := false, loadDone := false, start := false, milkTap := 0, airTap := 0, firmness := 0,
    pressure := { h1 := 0, h2 := 0, h3 := 0, h4 := 0 } }

/-- The state right after a reset: the volatile state of every block at its reset value (R180, R181), with the lines,
the store, the waiting causes, the waiting commands and the free count as given. -/
def State.afterReset (pending : List Instr) (lines : Lines) (causes : List Cause) (store : Store) (free : Nat) : State :=
  { pending := pending, lines := lines, start := StartState.init causes, config := none, link := LinkState.init,
    peers := PeerTable.init, milk := PoolState.init, air := PoolState.init, seq := SeqState.init, fill := FillState.init,
    coag := CoagState.init, knife := KnifeState.init, queue := QueueState.init, press := PressState.init,
    alerts := AlertState.init, port := PortState.init, store := store, free := free }

/-- The machine right after its first reset: supply applied to a station with its store as delivered (log 8, DESIGN
CHOICE). -/
def State.reset : State := State.afterReset [] Lines.quiet [.powerOn] Store.delivered 0

end Sys2Proof.Machine
end

