-- ==== Sys2Proof/Machine/Ops.lean ====
section
/-! DEFINITION. The shared operations: putting a block's state, record writes of the store, offers to the transmit queue,
the STATUS contents and their changes, and the shape of an event. -/

namespace Sys2Proof.Machine

/-! ### Putting one block's state -/

def State.setPending (s : State) (x : List Instr) : State := { s with pending := x }

def State.setLines (s : State) (x : Lines) : State := { s with lines := x }

def State.setStart (s : State) (x : StartState) : State := { s with start := x }

def State.setConfig (s : State) (x : Option RunConfig) : State := { s with config := x }

def State.setLink (s : State) (x : LinkState) : State := { s with link := x }

def State.setPeers (s : State) (x : PeerTable) : State := { s with peers := x }

def State.setMilk (s : State) (x : PoolState) : State := { s with milk := x }

def State.setAir (s : State) (x : PoolState) : State := { s with air := x }

def State.setSeq (s : State) (x : SeqState) : State := { s with seq := x }

def State.setFill (s : State) (x : FillState) : State := { s with fill := x }

def State.setCoag (s : State) (x : CoagState) : State := { s with coag := x }

def State.setKnife (s : State) (x : KnifeState) : State := { s with knife := x }

def State.setQueue (s : State) (x : QueueState) : State := { s with queue := x }

def State.setPress (s : State) (x : PressState) : State := { s with press := x }

def State.setAlerts (s : State) (x : AlertState) : State := { s with alerts := x }

def State.setPort (s : State) (x : PortState) : State := { s with port := x }

def State.setStore (s : State) (x : Store) : State := { s with store := x }

def State.setFree (s : State) (x : Nat) : State := { s with free := x }


/-- The Share Unit's state of a pool. -/
def State.pool (s : State) (p : Pool) : PoolState :=
  match p with
  | .milk => s.milk
  | .air => s.air

def State.setPool (s : State) (p : Pool) (x : PoolState) : State :=
  match p with
  | .milk => s.setMilk x
  | .air => s.setAir x

/-- A press head. -/
def State.head (s : State) (h : HeadNo) : Head := s.press.heads.get h

def State.setHead (s : State) (h : HeadNo) (x : Head) : State :=
  s.setPress { s.press with heads := s.press.heads.set h x }

/-! ### Record writes (R78, R80, R160, R175) -/

/-- Write a record: the write begins, or is carried by the next write when one is in flight, with the contents given here
(for the checkpoint log 59, DESIGN CHOICE; of the other records every change is a write of its own). -/
def Slot.write {α : Type} (r : Slot α) (x : α) : Slot α :=
  match r.inFlight with
  | none   => { r with inFlight := some x, next := none }
  | some _ => { r with next := some x }

/-- The write in flight ends with `x` in the store and its CRC as `good` says; a change taken meanwhile starts the next
write. -/
def Slot.finishWith {α : Type} (r : Slot α) (x : α) (good : Bool) : Slot α :=
  { stored := x, good := good, inFlight := r.next, next := none }

/-- The write in flight ends with what it wrote; nothing happens when none is in flight. -/
def Slot.finish {α : Type} (r : Slot α) : Slot α :=
  match r.inFlight with
  | none   => r
  | some x => r.finishWith x true

/-- A reset: a record whose write is in flight is left bad (R78, R80, R160, R175, R180). -/
def Slot.tear {α : Type} (r : Slot α) : Slot α :=
  { stored := r.stored, good := r.good && r.inFlight.isNone, inFlight := none, next := none }

/-- The record's latest figures: those the last write carries. -/
def Slot.latest {α : Type} (r : Slot α) : α := r.next.getD (r.inFlight.getD r.stored)

/-! ### Questions the blocks ask -/

/-- Station seconds (R77), stopping at the greatest value of their four bytes (log 32, DEDUCED). -/
def stationSeconds (s : State) : Nat := min 4294967295 (s.start.stationMs / 1000)

/-- Steps in which the vat may be held (R58). -/
def Step.holdable : Step → Bool
  | .idle => false
  | .filling => true
  | .setting => true
  | .cutting => true
  | .stirring => true
  | .moulding => true
  | .stopped => false

/-- HELD: the hold-reason set is not empty (R61). -/
def HoldSet.held (h : HoldSet) : Bool := h.order || h.line || h.alert || h.meter || h.knife

def held (s : State) : Bool := s.seq.hold.held

/-- The number of the current batch, 0 when none (R58). -/
def batchNumber (s : State) : Nat :=
  match s.seq.current with
  | .none => 0
  | .opened r => r.number
  | .closed n => n

/-- The open record, if the current batch has one. -/
def openRecord (s : State) : Option BatchRecord :=
  match s.seq.current with
  | .opened r => some r
  | .none => none
  | .closed _ => none

/-- The recipe of the running batch. -/
def batchRecipe (c : RunConfig) (s : State) : Option Recipe := (openRecord s).bind fun r => c.recipe r.slot

/-- A head that counts as usable: fitted, not in OUT, not marked pending-out (R144). -/
def Head.usable (h : Head) : Bool := h.state != .unfitted && h.state != .out && !h.pendingOut

/-- The usable heads count (R144). -/
def usableHeads (s : State) : Nat := s.press.heads.toList.countP Head.usable

/-- The highest level among pending records, absent when there is none (R164). -/
def highestLevel (s : State) : Option Nat :=
  match s.alerts.pending with
  | [] => none
  | a :: as => some (as.foldl (fun m r => max m r.level) a.level)

/-- Whether a record of level 3 is pending (R169). -/
def levelThreePending (s : State) : Bool := s.alerts.pending.any fun r => r.level == 3

/-! ### STATUS (R3, R4) -/

/-- The claim a STATUS built now carries in a pool: the own claim in READY, with the holding flag set if the own grant
is above 0 (R3, R45). -/
def statusClaim (s : State) (p : Pool) : Option Claim :=
  if s.start.mode = .ready then
    (s.pool p).own.map fun c =>
      { level := c.level, holding := decide (0 < (s.pool p).grant), waited := c.waited, request := c.request, floor := c.floor }
  else none

/-- The contents of a STATUS built now (R3). -/
def statusContents (s : State) : Reported :=
  { role := .vat, ready := s.start.mode = .ready, batchNumber := batchNumber s, step := s.seq.step, held := held s,
    milkBand := s.milk.band, airBand := s.air.band, usableHeads := usableHeads s, highest := highestLevel s,
    milkClaim := statusClaim s .milk, airClaim := statusClaim s .air }

/-- Mark a change of STATUS content from one state to the next (R4): the build carries the state at its own moment, and
a change undone within the span still produces it. A station that a reset has put back to its start marks nothing. The
contents are compared before and after the whole event: R4 leaves open whether one that changes and changes back inside
a single event is a change, as the held flag does at a RESUME with DRIVE FAULT active, and here it marks nothing (log 63,
DESIGN CHOICE). -/
def noteStatus (before after : State) : State :=
  if after.start.mode = .starting ∨ (statusContents before = statusContents after ∧ before.start.mode = after.start.mode)
  then after
  else after.setLink { after.link with changed := true }

/-- An event: its effect, taken whole, and the mark of a change of STATUS content from its beginning to its end (log 63,
DESIGN CHOICE). -/
def event (before after : State) : Host.Outcome State Fault Refusal := .next (noteStatus before after)

/-- An effect of a block that runs: before the configuration is loaded, and in SETUP_ONLY, nothing (log 4, DESIGN
CHOICE). -/
def whenRunning (s : State) (f : RunConfig → State) : State :=
  match s.config with
  | none => s
  | some c => f c

/-! ### The transmit queue (R2, R6) -/

/-- Offer a frame: refused in MUTE and SETUP_ONLY; a STATUS overwrites a queued STATUS; else it joins the tail of a
queue of fewer than six, or is discarded and QUEUE OVERRUN is counted. -/
def offerTo (l : LinkState) (f : TxFrame) : LinkState :=
  if f.kind = .status ∧ l.queue.any (fun g => g.kind = .status) then
    { l with queue := l.queue.map fun g => if g.kind = .status then f else g }
  else if l.queue.length < 6 then { l with queue := l.queue ++ [f] }
  else { l with queueOverrun := satAdd 65535 l.queueOverrun 1 }

def offer (s : State) (f : TxFrame) : State :=
  if s.start.mode = .mute ∨ s.start.mode = .setupOnly then s else s.setLink (offerTo s.link f)

/-- Offer the REPLY to an addressed order; none is built in MUTE (R17). -/
def reply (s : State) (sender code tag : Byte) (v : Verdict) : State :=
  offer s { kind := .reply, dest := sender.toNat, body := [code, tag, byte v.code] }

end Sys2Proof.Machine
end

