-- ==== Sys2Proof/Machine/Share.lean ====
section
/-! DEFINITION. Chapter 3: the band monitor, the own claims, the derate, the walk, the reckoning and the handing of
grants to their consumers. -/

namespace Sys2Proof.Machine

/-! ### Handing a grant to its consumer (R54) -/

/-- Steer the flow command: at 0 the valve duty and the no-pulse time are 0 too (R90, R94). -/
def FillState.steer (f : FillState) (q : Nat) : FillState :=
  if q = 0 then { f with qCmd := 0, duty := 0, noPulse := 0 } else { f with qCmd := q }

/-- The Fill Unit takes a MILK grant: a grant below the flow command becomes the command at once (R89). -/
def FillState.takeGrant (f : FillState) (g : Nat) : FillState :=
  if g < f.qCmd then ({ f with grant := g }).steer g else { f with grant := g }

/-- A changed own grant is handed to the pool's consumer; an equal one is not handed again (R54). -/
def setGrant (p : Pool) (g : Nat) (s : State) : State :=
  if (s.pool p).grant = g then s
  else
    let s := s.setPool p { s.pool p with grant := g }
    match p with
    | .milk => s.setFill (s.fill.takeGrant g)
    | .air => s.setPress { s.press with airGrant := g }

/-! ### The own claims (R41, R46) -/

/-- The own claim after its consumer presents figures: a request of 0 drops it, a request with no claim raises it with
waited steps 0, and a request with a claim changes it and keeps its waited steps. A floor above the request is taken as
the request. -/
def presented (own : Option OwnClaim) (level request floor : Nat) : Option OwnClaim :=
  if request = 0 then none
  else
    match own with
    | none => some { level := level, request := request, floor := min floor request, waited := 0, stepMs := 0 }
    | some c => some { c with level := level, request := request, floor := min floor request }

/-- A consumer presents figures (R41). A drop takes the own grant to 0, and a request below the own grant cuts the
grant to it (R46). -/
def presentClaim (p : Pool) (level request floor : Nat) (s : State) : State :=
  let s := s.setPool p { s.pool p with own := presented (s.pool p).own level request floor }
  setGrant p (min (s.pool p).grant request) s

/-- A consumer drops its claim. -/
def dropClaim (p : Pool) (s : State) : State := presentClaim p 0 0 0 s

/-! ### The walk (R50 to R52) -/

/-- A candidate of the walk: a station number and its claim (R50). -/
structure Candidate where
  number : Nat
  claim  : Claim
deriving DecidableEq, Repr

/-- The ranking key of Table 3-3, field by field. -/
def Candidate.before (a b : Candidate) : Bool :=
  if a.claim.level ≠ b.claim.level then decide (b.claim.level < a.claim.level)
  else if a.claim.holding ≠ b.claim.holding then a.claim.holding
  else if a.claim.waited ≠ b.claim.waited then decide (b.claim.waited < a.claim.waited)
  else decide (a.number < b.number)

def insertRanked (a : Candidate) : List Candidate → List Candidate
  | [] => [a]
  | b :: bs => if a.before b then a :: b :: bs else b :: insertRanked a bs

/-- The candidates in rank order (R51). -/
def ranked : List Candidate → List Candidate
  | [] => []
  | a :: as => insertRanked a (ranked as)

/-- The grant of a candidate with the remainder at its turn (R52). -/
def turnGrant (remainder : Nat) (c : Claim) : Nat :=
  if c.request ≤ remainder then c.request
  else if c.floor ≤ remainder ∧ 0 < remainder then remainder
  else 0

/-- The figures at the own candidate's turn: rank, grant and the remainder after it. -/
structure Turn where
  rank      : Nat
  grant     : Nat
  remainder : Nat
deriving DecidableEq, Repr

/-- Walk the ranked candidates to the own turn (R52); `rank` is the place of the next candidate. -/
def walk (own : Nat) : Nat → Nat → List Candidate → Turn
  | rank, remainder, [] => { rank := rank, grant := 0, remainder := remainder }
  | rank, remainder, c :: cs =>
    let g := turnGrant remainder c.claim
    if c.number = own then { rank := rank, grant := g, remainder := remainder - g }
    else walk own (rank + 1) (remainder - g) cs

/-! ### The reckoning (R40, R47 to R53) -/

/-- A peer's band for a pool. -/
def Reported.band (r : Reported) (p : Pool) : Band :=
  match p with
  | .milk => r.milkBand
  | .air => r.airBand

/-- A peer's claim in a pool. -/
def Reported.claim (r : Reported) (p : Pool) : Option Claim :=
  match p with
  | .milk => r.milkClaim
  | .air => r.airClaim

/-- The derate factor in eighths (R40). -/
def derate (own : Band) (p : Pool) (peers : List PeerRecord) : Nat :=
  if own = .starved then 0
  else if own = .low ∨ peers.any (fun r => r.live && r.reported.band p != .normal) then 6
  else 8

/-- The claim in the pool of each LIVE record whose mode is not LISTEN (R50; R29's words on the mode: log 37, DEDUCED).
-/
def peerCandidates (p : Pool) (peers : List PeerRecord) : List Candidate :=
  peers.filterMap fun r =>
    if r.live && r.reported.ready then
      (r.reported.claim p).map fun c => { number := r.number, claim := c }
    else none

/-- Reckon a pool (R49, R52, R53): the derate is formed, the walk is run unless gated, the last-reckoning figures are
kept and a changed grant is handed on. -/
def reckon (c : RunConfig) (p : Pool) (s : State) : State :=
  let ps := s.pool p
  let d := derate ps.band p s.peers.records
  let e := (c.pool p).capacity * d / 8
  match decide (s.start.mode = .ready), ps.own, ps.carried with
  | true, some own, some carried =>
    let cands := ranked ({ number := c.stationNumber, claim := carried } :: peerCandidates p s.peers.records)
    let turn := walk c.stationNumber 1 e cands
    let s := s.setPool p { ps with
      last := { derate := d, effective := e, rank := turn.rank, candidates := cands.length, remainder := turn.remainder } }
    setGrant p (min turn.grant own.request) s
  | _, _, _ =>
    let s := s.setPool p { ps with
      last := { derate := d, effective := e, rank := 0, candidates := 0, remainder := e } }
    setGrant p 0 s

/-- Reckon both pools (R47). -/
def reckonBoth (c : RunConfig) (s : State) : State := reckon c .air (reckon c .milk s)

/-! ### The band monitor (R34 to R39) -/

/-- A run of consecutive samples that meet a condition, to at most 3 (R34). -/
def stepRun (met : Bool) (n : Nat) : Nat := if met then min 3 (n + 1) else 0

/-- The four runs at 0, as every change of the own band sets them (R34). -/
def PoolState.clearRuns (ps : PoolState) : PoolState :=
  { ps with belowLow := 0, atLowLeave := 0, belowStarved := 0, atStarvedLeave := 0 }

/-- One sample of a pool's tap (R34): a raw reading of 0 or 4095 is a sensor sample, any other a good one. -/
def PoolState.sample (c : PoolSettings) (raw : Raw) (ps : PoolState) : PoolState :=
  if raw = 0#12 ∨ raw = 4095#12 then
    ({ ps with lastSample := .sensor, sensorRun := min 3 (ps.sensorRun + 1), goodRun := 0 }).clearRuns
  else
    let p := raw.toNat * c.fullScale / 4095
    let ps := { ps with lastSample := .kpa p, sensorRun := 0 }
    if ps.degraded then ({ ps with goodRun := min 3 (ps.goodRun + 1) }).clearRuns
    else
      { ps with
        goodRun := 0
        belowLow := stepRun (decide (p < c.lowEnter)) ps.belowLow
        atLowLeave := stepRun (decide (c.lowLeave ≤ p)) ps.atLowLeave
        belowStarved := stepRun (decide (p < c.starvedEnter)) ps.belowStarved
        atStarvedLeave := stepRun (decide (c.starvedLeave ≤ p)) ps.atStarvedLeave }

/-- The band that the runs move to, none when they move none (R35, R36, R37). -/
def nextBand (ps : PoolState) : Option Band :=
  if ps.degraded then none
  else
    match ps.band with
    | .normal => if ps.belowStarved = 3 then some .starved else if ps.belowLow = 3 then some .low else none
    | .low => if ps.belowStarved = 3 then some .starved else if ps.atLowLeave = 3 then some .normal else none
    | .starved => if ps.atStarvedLeave = 3 then some .low else none

/-- The kind raised on entry into STARVED (R39). -/
def starvedKind : Pool → AlertKind
  | .milk => .milkStarved
  | .air => .airStarved

/-- The pool's number as HEADER_SENSOR's detail (R38). -/
def poolNumber : Pool → Nat
  | .milk => 1
  | .air => 2

/-- The pressure of the last sample, the detail of a STARVED kind (R39). -/
def sampleKpa : Sample → Nat
  | .kpa p => p
  | .sensor => 0

/-- A raise an event hands to the Alert Unit: a kind and its detail value. -/
abbrev Raise := AlertKind × Nat

/-- The band moves where its runs say so, and the pool is reckoned at once; entry into STARVED raises its kind (R35 to
R37, R39). -/
def moveBand (c : RunConfig) (p : Pool) (s : State) : State × List Raise :=
  match nextBand (s.pool p) with
  | none => (s, [])
  | some b =>
    let kpa := sampleKpa (s.pool p).lastSample
    let s := reckon c p (s.setPool p ({ s.pool p with band := b }).clearRuns)
    (s, if b = .starved then [(starvedKind p, kpa)] else [])

/-- Whether the tap becomes degraded: the sensor run at 3 while the mark is clear (R38). -/
def degrades (ps : PoolState) : Bool := !ps.degraded && ps.sensorRun == 3

/-- The tap becomes degraded: the band is LOW whatever it was, HEADER_SENSOR is raised, and a change of band is
reckoned at once (R38, R39). -/
def degradeTap (c : RunConfig) (p : Pool) (s : State) : State × List Raise :=
  if degrades (s.pool p) then
    let changed := (s.pool p).band ≠ .low
    let s := s.setPool p ({ s.pool p with degraded := true, band := .low, goodRun := 0 }).clearRuns
    (if changed then reckon c p s else s, [(.headerSensor, poolNumber p)])
  else (s, [])

/-- The good run at 3 ends degraded judgement, and judgement resumes from LOW with all four runs at 0 (R38). -/
def endDegraded (p : Pool) (s : State) : State :=
  if (s.pool p).degraded ∧ (s.pool p).goodRun = 3 then
    s.setPool p ({ s.pool p with degraded := false, goodRun := 0 }).clearRuns
  else s

/-- One sample of a pool's tap with the judgement it brings (R34 to R39). -/
def judgeTap (c : RunConfig) (p : Pool) (raw : Raw) (s : State) : State × List Raise :=
  let s := s.setPool p ((s.pool p).sample (c.pool p) raw)
  let (s, a) := degradeTap c p s
  let s := endDegraded p s
  let (s, b) := moveBand c p s
  (s, a ++ b)

/-! ### Waited steps (R44) -/

/-- A standing claim's waited steps advance at each whole 10 s, to at most 255. -/
def advanceWaited (p : Pool) (s : State) : State :=
  match (s.pool p).own with
  | none => s
  | some c =>
    if 10000 ≤ c.stepMs then
      s.setPool p { s.pool p with
        own := some { c with waited := satAdd 255 c.waited 1, stepMs := c.stepMs - 10000 } }
    else s

/-! ### STATUS builds (R3, R4, R45) -/

/-- Build a STATUS (R3, R4, R45): its contents are those of this moment, both carried claims become the claims it
carries, it is offered, and a pool whose carried claim changed is reckoned. -/
def buildStatus (c : RunConfig) (s : State) : State :=
  let body := statusBytes s.start.mode.code (statusContents s)
  let milk := statusClaim s .milk
  let air := statusClaim s .air
  let milkChanged := decide (milk ≠ s.milk.carried)
  let airChanged := decide (air ≠ s.air.carried)
  let s := s.setLink { s.link with sinceBuildMs := 0, changed := false }
  let s := s.setMilk { s.milk with carried := milk }
  let s := s.setAir { s.air with carried := air }
  let s := offer s { kind := .status, dest := 0, body := body }
  let s := if milkChanged then reckon c .milk s else s
  if airChanged then reckon c .air s else s

/-- Whether STATUS frames are built at all: in LISTEN after its opening second, and in READY (R2, R4). -/
def buildsStatus (s : State) : Bool :=
  match s.start.mode with
  | .listen => !s.link.opening
  | .ready => true
  | .starting => false
  | .mute => false
  | .setupOnly => false

/-- Whether a build is due: 1 s since the previous build, or a change pending and 100 ms since it (R4). -/
def statusDue (s : State) : Bool :=
  buildsStatus s && (decide (1000 ≤ s.link.sinceBuildMs) || (s.link.changed && decide (100 ≤ s.link.sinceBuildMs)))

/-- The opening second is over (R2): it is timed from the entry into LISTEN. -/
def openingOver (s : State) : Bool :=
  s.start.mode = .listen && s.link.opening && decide (1000 ≤ s.link.openingMs)

/-! ### The commands -/

/-- STATUS_BUILD (R4). -/
def execStatusBuild (s : State) : Host.Outcome State Fault Refusal :=
  event s (whenRunning s fun c => if statusDue s then buildStatus c s else s)

/-- OPENING_SECOND_END (R2, R4): transmission may begin and the first STATUS is built. -/
def execOpeningSecondEnd (s : State) : Host.Outcome State Fault Refusal :=
  event s (whenRunning s fun c =>
    if openingOver s then buildStatus c (s.setLink { s.link with opening := false }) else s)

/-- ONCE_A_SECOND_RECKONING (R47). -/
def execOnceASecondReckoning (s : State) : Host.Outcome State Fault Refusal :=
  event s (whenRunning s fun c => reckonBoth c s)

/-- WAITED_STEP_ADVANCE (R44). -/
def execWaitedStepAdvance (p : Pool) (s : State) : Host.Outcome State Fault Refusal :=
  event s (whenRunning s fun _ => advanceWaited p s)

/-- DEGRADED_END (R38). -/
def execDegradedEnd (p : Pool) (s : State) : Host.Outcome State Fault Refusal :=
  event s (whenRunning s fun _ => endDegraded p s)

end Sys2Proof.Machine
end

