-- ==== Sys2Proof/Machine/Alerts.lean ====
section
/-! DEFINITION. Holding the vat (R61 to R63, R73 to R76, R97, R104) and chapter 10: raises, the beacon and
acknowledgement; with them the band commands of chapter 3, which raise alerts. -/

namespace Sys2Proof.Machine

/-! ### Withdrawing a knife job (R122, R125, R128) -/

/-- KNIFE RUN off and KNIFE SPEED to 0 at once, off since the present moment (R124, R125, R127; log 39, DEDUCED). -/
def KnifeState.halt (k : KnifeState) (st : DriveState) : KnifeState :=
  { k with state := st, run := false, speed := 0, offMs := 0, secondMs := 0 }

/-- Whether RUN has been off for the reverse dwell (R123). -/
def dwellComplete (c : RunConfig) (s : State) : Bool := decide (c.lines.reverseDwell * 1000 ≤ s.knife.offMs)

/-- The job in force is withdrawn (R125, R128). A dwell that has ended already leaves for STOPPED (R130), in the
withdrawn job's direction as a dwell's end does (R125; log 46, DEDUCED); one that has not runs on. -/
def KnifeState.withdraw (dwellOver : Bool) (k : KnifeState) : KnifeState :=
  match k.job with
  | none => k
  | some j =>
    match k.state with
    | .stopped => { k with job := none }
    | .dwell =>
      if dwellOver then { k with state := .stopped, job := none, continuing := false, reverse := j.kind.direction }
      else { k with job := none, continuing := true, restDir := j.kind.direction }
    | .starting => { k.halt .stopped with job := none }
    | .running => { k.halt .stopped with job := none }
    | .faulted => { k with state := .stopped, job := none }

/-- The dwell of the present moment has ended: RUN has been off for the reverse dwell of the running configuration. -/
def dwellOver (s : State) : Bool :=
  match s.config with
  | none => false
  | some c => dwellComplete c s

/-- A block withdraws its jobs; a job of another block stays in force (R122). -/
def withdrawJobs (mine : JobKind → Bool) (s : State) : State :=
  match s.knife.job with
  | none => s
  | some j => if mine j.kind then s.setKnife (s.knife.withdraw (dwellOver s)) else s

def JobKind.ofFill (k : JobKind) : Bool := k == .fillStir

def JobKind.ofMonitor (k : JobKind) : Bool := k == .mix

def JobKind.ofSequencer (k : JobKind) : Bool := k == .cut || k == .stir

/-! ### The held values of a step (R73 to R76, R97, R104) -/

/-- FILLING held: in every phase the fill-stir job is withdrawn; FLOW drops the claim and the flow command; DOSE turns
the pump off (R73, R97). -/
def holdFilling (s : State) : State :=
  let s := withdrawJobs JobKind.ofFill (s.setFill { s.fill with stirJob := false })
  match s.seq.phase with
  | .flow => dropClaim .milk (s.setFill (s.fill.steer 0))
  | .dose => s.setFill { s.fill with dosePump := false }
  | _ => s

/-- The held values of the step the vat is in (R61). -/
def applyHold (s : State) : State :=
  match s.seq.step with
  | .filling => holdFilling s
  | .setting => withdrawJobs JobKind.ofMonitor (s.setCoag { s.coag with mixJob := false })
  | .cutting => withdrawJobs JobKind.ofSequencer s
  | .stirring => withdrawJobs JobKind.ofSequencer s
  | .moulding => s.setSeq { s.seq with outlet := false, fillerRequest := true }
  | .idle => s
  | .stopped => s

/-- Whether a reason is in the set. -/
def HoldSet.has (h : HoldSet) : Reason → Bool
  | .order => h.order
  | .line => h.line
  | .alert => h.alert
  | .meter => h.meter
  | .knife => h.knife

/-- Put a reason into the set or take it out. -/
def HoldSet.put (h : HoldSet) (r : Reason) (b : Bool) : HoldSet :=
  match r with
  | .order => { h with order := b }
  | .line => { h with line := b }
  | .alert => { h with alert := b }
  | .meter => { h with meter := b }
  | .knife => { h with knife := b }

/-- The reasons that record the first fault step as they enter (R63). -/
def Reason.isFault : Reason → Bool
  | .alert => true
  | .meter => true
  | .knife => true
  | .order => false
  | .line => false

/-- Change the open record, if there is one. -/
def changeRecord (f : BatchRecord → BatchRecord) (s : State) : State :=
  match s.seq.current with
  | .opened r => s.setSeq { s.seq with current := .opened (f r) }
  | .none => s
  | .closed _ => s

/-- Record the current step as the first fault step if none is recorded (R63, R69, R72). -/
def noteFirstFault (s : State) : State :=
  changeRecord (fun r => { r with firstFault := r.firstFault.or (some s.seq.step) }) s

/-- A cause adds a reason (R61, R63): in a holdable step only, and a set that was empty applies the held values. -/
def addReason (r : Reason) (s : State) : State :=
  if !s.seq.step.holdable || s.seq.hold.has r then s
  else
    let was := held s
    let s := s.setSeq { s.seq with hold := s.seq.hold.put r true }
    let s := if r.isFault then noteFirstFault s else s
    if was then s else applyHold s

/-! ### Raises (R163 to R166) -/

/-- The level in force of a kind: the level taken at the start, raised to the kind's minimum (R163). -/
def levelInForce (c : RunConfig) (k : AlertKind) : Nat := max (c.alertLevels.getD (k.number - 1) 0) k.minLevel

/-- The beacon that a pending set shows (R166). -/
def beaconOf (pending : List AlertRecord) : Beacon :=
  if pending.any (fun r => r.level == 3) then .fast
  else if pending.any (fun r => r.level == 2) then .slow
  else .off

/-- Put a record into the pending set in the order of Table 10-1. -/
def insertAlert (a : AlertRecord) : List AlertRecord → List AlertRecord
  | [] => [a]
  | b :: bs => if a.kind.number < b.kind.number then a :: b :: bs else b :: insertAlert a bs

/-- An ALERT frame's body (13.2). -/
def AlertRecord.frameBody (a : AlertRecord) : List Byte :=
  [byte a.kind.number, byte a.level] ++ be16 a.batchNumber ++ [byte a.step.code] ++ be16 a.detail

/-- Whether a kind is pending. -/
def isPending (k : AlertKind) (s : State) : Bool := s.alerts.pending.any fun r => r.kind = k

/-- A raise of a kind with the batch number and vat step it is raised in. A kind not pending gets its record, then as
its level asks an ALERT frame, the beacon judged and ALERT added to the hold-reason set (R164); a pending kind counts a
repeat, and at level 3 adds ALERT again (R165). -/
def raiseIn (c : RunConfig) (k : AlertKind) (detail batch : Nat) (step : Step) (s : State) : State :=
  if isPending k s then
    let s' := s.setAlerts { s.alerts with
      pending := s.alerts.pending.map fun r => if r.kind = k then { r with repeats := satAdd 255 r.repeats 1 } else r }
    if s.alerts.pending.any (fun r => r.kind = k && r.level == 3) then addReason .alert s' else s'
  else
    let a : AlertRecord :=
      { kind := k, level := levelInForce c k, batchNumber := batch, step := step, detail := detail,
        firstRaised := stationSeconds s, repeats := 0 }
    let s := s.setAlerts { s.alerts with pending := insertAlert a s.alerts.pending }
    let s := if 1 ≤ a.level then offer s { kind := .alert, dest := 0, body := a.frameBody } else s
    let s := if 2 ≤ a.level then s.setAlerts { s.alerts with beacon := beaconOf s.alerts.pending } else s
    if a.level = 3 then addReason .alert s else s

/-- A raise at the present step and batch. -/
def raise (c : RunConfig) (k : AlertKind) (detail : Nat) (s : State) : State :=
  raiseIn c k detail (batchNumber s) s.seq.step s

/-- The raises of one event, in the order of Table 10-1 (R163, R164). -/
def raiseAll (c : RunConfig) (rs : List Raise) (s : State) : State :=
  AlertKind.all.foldl (fun s k => rs.foldl (fun s r => if r.1 = k then raise c k r.2 s else s) s) s

/-! ### Acknowledgement (R167, R168) -/

/-- The records left after an acknowledgement of a kind's number, or of all for 0. -/
def acknowledged (n : Nat) (pending : List AlertRecord) : List AlertRecord :=
  if n = 0 then [] else pending.filter fun r => r.kind.number ≠ n

/-- Whether the acknowledgement finds what it names (R167). -/
def ackFinds (n : Nat) (s : State) : Bool := n == 0 || s.alerts.pending.any fun r => r.kind.number == n

/-- Remove the named records and judge the beacon afresh (R166, R167). -/
def acknowledge (n : Nat) (s : State) : State :=
  let left := acknowledged n s.alerts.pending
  s.setAlerts { pending := left, beacon := beaconOf left }

/-! ### The band commands of chapter 3 -/

/-- BAND_SAMPLE (R34 to R39): each pool's tap is sampled and judged; the kinds that the sample raises are taken in the
order of Table 10-1, and of two raises of one kind MILK's is first (log 40, DESIGN CHOICE). -/
def sampleBands (c : RunConfig) (milkRaw airRaw : Raw) (s : State) : State :=
  let (s, a) := judgeTap c .milk milkRaw s
  let (s, b) := judgeTap c .air airRaw s
  raiseAll c (a ++ b) s

/-- BAND_SAMPLE. -/
def execBandSample (milkRaw airRaw : Raw) (s : State) : Host.Outcome State Fault Refusal :=
  let s' := s.setLines { s.lines with milkTap := milkRaw, airTap := airRaw }
  event s (whenRunning s' fun c => sampleBands c milkRaw airRaw s')

/-- BAND_CHANGE (R39). -/
def execBandChange (p : Pool) (s : State) : Host.Outcome State Fault Refusal :=
  event s (whenRunning s fun c =>
    let r := moveBand c p s
    raiseAll c r.2 r.1)

/-- TAP_DEGRADED (R38). -/
def execTapDegraded (p : Pool) (s : State) : Host.Outcome State Fault Refusal :=
  event s (whenRunning s fun c =>
    let r := degradeTap c p s
    raiseAll c r.2 r.1)

end Sys2Proof.Machine
end

