-- ==== Sys2Proof/Machine/Batch.lean ====
section
/-! DEFINITION. The batch record and its life (R58, R59, R77 to R82): step changes, the checkpoint, the history, the lane
close, the REPORT and the end of moulding. -/

namespace Sys2Proof.Machine

/-! ### The checkpoint (R78) -/

/-- Write the checkpoint with the open record as it stands at the change that asks for the write; a write that waits
behind one in flight keeps that record, and a field set in between enters with the next change R78 names (log 59, DESIGN
CHOICE). -/
def saveCheckpoint (s : State) : State :=
  match openRecord s with
  | none => s
  | some r =>
    s.setStore { s.store with
      checkpoint := s.store.checkpoint.write { lastNumber := s.seq.counter, record := some r } }

/-! ### Steps (R58, R59, R61) -/

/-- Enter a step and phase: the record takes them, and the step start at a change of step; IDLE and STOPPED empty the
hold-reason set; the checkpoint is written (R59, R61, R77, R78). -/
def enterStep (st : Step) (ph : Phase) (s : State) : State :=
  let now := stationSeconds s
  let changed := decide (st ≠ s.seq.step)
  let s := s.setSeq { s.seq with
    step := st, phase := ph, hold := if st.holdable then s.seq.hold else HoldSet.clear }
  saveCheckpoint
    (changeRecord (fun r => { r with step := st, phase := ph, stepStart := if changed then now else r.stepStart }) s)

/-! ### The history (R80) -/

/-- The records kept when a record of this number is written: none when its number is not greater than the newest's,
and at most seven of the newest otherwise. -/
def historyRoom (h : List (Slot BatchRecord)) (number : Nat) : List (Slot BatchRecord) :=
  match h.getLast? with
  | none => []
  | some newest => if number ≤ newest.latest.number then [] else h.drop (h.length - 7)

/-- Write a closed record into the history ring (R80). -/
def writeHistory (r : BatchRecord) (s : State) : State :=
  s.setStore { s.store with
    history := historyRoom s.store.history r.number ++ [{ stored := r, good := false, inFlight := some r, next := none }] }

/-- The history record of a batch number. -/
def historyRecord (number : Nat) (s : State) : Option BatchRecord :=
  (s.store.history.find? fun x => x.latest.number = number).map Slot.latest

/-- Change the history record of a batch number; it is written again whole (R80, R81). -/
def changeHistory (number : Nat) (f : BatchRecord → BatchRecord) (s : State) : State :=
  s.setStore { s.store with
    history := s.store.history.map fun x => if x.latest.number = number then x.write (f x.latest) else x }

/-! ### The lane (R81, R82) -/

/-- The REPORT of a closed batch (R82). -/
def offerReport (r : BatchRecord) (s : State) : State := offer s { kind := .report, dest := 0, body := r.reportBody }

/-- Finished on the lane: closed on the vat, not yet closed on the lane, every load made pressed (R81). -/
def BatchRecord.laneFinished (r : BatchRecord) : Bool := !r.laneClosed && r.pressed == r.made

/-- The record as the lane close leaves it (R81). -/
def BatchRecord.closeLane (r : BatchRecord) : BatchRecord :=
  { r with outcome := if r.outcome = .vatDone then .done else r.outcome, laneClosed := true }

/-- The lane check of R81 on the history record of a batch. -/
def laneCheck (number : Nat) (s : State) : State :=
  match historyRecord number s with
  | none => s
  | some r =>
    if r.laneFinished then offerReport r.closeLane (changeHistory number BatchRecord.closeLane s) else s

/-- A load of a batch is unloaded (R81): counted in the open record of that number, or else in the history record, with
the lane check. -/
def countUnload (number : Nat) (flagged : Bool) (s : State) : State :=
  let count := fun (r : BatchRecord) => { r with pressed := r.pressed + 1, flagged := r.flagged + flagged.toNat }
  match openRecord s with
  | some r =>
    if r.number = number then saveCheckpoint (changeRecord count s)
    else laneCheck number (changeHistory number count s)
  | none => laneCheck number (changeHistory number count s)

/-! ### Closing on the vat (R80) -/

/-- The open record is written into the history, its number stays current, and the lane check is made at once (R80; log
24, DEDUCED). The history write begins beside the checkpoint's write (log 47, DESIGN CHOICE). -/
def closeOnVat (s : State) : State :=
  match openRecord s with
  | none => s
  | some r => laneCheck r.number (writeHistory r (s.setSeq { s.seq with current := .closed r.number }))

/-- The end of moulding (R59, R76, R80, R137): OUTLET off, the filler-hold request withdrawn, outcome VAT_DONE, the
record closed, and the step IDLE with no current batch. -/
def endMoulding (s : State) : State :=
  let s := s.setSeq { s.seq with outlet := false, fillerRequest := false }
  let s := saveCheckpoint (changeRecord (fun r => { r with outcome := .vatDone }) s)
  let s := closeOnVat s
  enterStep .idle .none (s.setSeq { s.seq with current := .none })

/-- The figure at which the filled count ends moulding (R137). -/
def endFigure (r : Recipe) : Nat := if r.loadsCount = 0 then 24 else r.loadsCount

/-- The filled count has reached its end figure in MOULDING (R137). -/
def fillCountReached (c : RunConfig) (s : State) : Bool :=
  s.seq.step = .moulding &&
    match batchRecipe c s with
    | none => false
    | some r => decide (endFigure r ≤ s.queue.filled)

/-- The check of R137 after a LOAD DONE edge. -/
def checkMouldingEnd (c : RunConfig) (s : State) : State := if fillCountReached c s then endMoulding s else s

/-- VAT EMPTY ends moulding, raising SHORT_MOULDING when a loads count of 1 to 24 was not reached (R138); it is raised
before the batch closes (log 23, DEDUCED). -/
def vatEmptyEnd (c : RunConfig) (s : State) : State :=
  match batchRecipe c s with
  | none => s
  | some r =>
    let s := if s.queue.filled < r.loadsCount then raise c .shortMoulding s.queue.filled s else s
    endMoulding s

/-- Entry into MOULDING (R134, R138): the STIR job is withdrawn, the filled count is 0, OUTLET goes on unless the vat
is held, and a VAT EMPTY line already active ends moulding. -/
def enterMoulding (c : RunConfig) (s : State) : State :=
  let s := withdrawJobs JobKind.ofSequencer (enterStep .moulding .none s)
  let s := s.setQueue { s.queue with filled := 0 }
  let s := s.setSeq { s.seq with outlet := !held s, fillerRequest := held s }
  if s.lines.vatEmpty then vatEmptyEnd c s else s

/-! ### The commands -/

/-- CHECKPOINT_WRITE_DONE (R78). -/
def execCheckpointWriteDone (s : State) : Host.Outcome State Fault Refusal :=
  event s (s.setStore { s.store with checkpoint := s.store.checkpoint.finish })

/-- HISTORY_WRITE_DONE (R80): the write of that batch's record ends. -/
def execHistoryWriteDone (number : Nat) (s : State) : Host.Outcome State Fault Refusal :=
  event s (s.setStore { s.store with
    history := s.store.history.map fun x => if x.latest.number = number then x.finish else x })

/-- MOULDING_END (R137). -/
def execMouldingEnd (s : State) : Host.Outcome State Fault Refusal :=
  event s (whenRunning s fun c => checkMouldingEnd c s)

/-- VAT_EMPTY_ACTIVE (R138): the line takes its new level; going active in MOULDING ends moulding. -/
def execVatEmptyActive (level : Bool) (s : State) : Host.Outcome State Fault Refusal :=
  let rises := level && !s.lines.vatEmpty
  let s' := s.setLines { s.lines with vatEmpty := level }
  event s (whenRunning s' fun c => if rises ∧ s'.seq.step = .moulding then vatEmptyEnd c s' else s')

end Sys2Proof.Machine
end

