-- ==== Sys2Proof/Machine/Drive.lean ====
section
/-! DEFINITION. Chapter 7: requests, starts, faults, the stir profile and the commands of the Knife Drive Unit. -/

namespace Sys2Proof.Machine

/-! ### The stir profile (R130) -/

/-- The STIR job's speed: the stir speed in RUN; in DWELL and RAMP the cut speed plus the signed difference times the
ramp elapsed div the ramp time, truncated toward zero (R130; a ramp time of 0: log 17, DESIGN CHOICE; an unlimited one:
log 55, DEDUCED). -/
def stirJobSpeed (r : Recipe) (ph : Phase) (elapsed : Nat) : Nat :=
  if ph = .run then r.stirSpeed
  else if duration r.rampTime = 0 then (Config.rampDivZero r.cutSpeed r.stirSpeed).toNat
  else ((r.cutSpeed : Int) + (((r.stirSpeed : Int) - r.cutSpeed) * elapsed).tdiv (duration r.rampTime)).toNat

/-- A job with its speed of this moment: STIR takes it from the profile, the others keep it (R122). -/
def jobNow (c : RunConfig) (s : State) (j : Job) : Job :=
  match j.kind, batchRecipe c s with
  | .stir, some r => { j with speed := stirJobSpeed r s.seq.phase s.knife.rampElapsed }
  | _, _ => j

/-- The job in force takes its speed of this moment, and KNIFE SPEED with it while RUN is on (R130). -/
def retune (c : RunConfig) (s : State) : State :=
  match s.knife.job with
  | none => s
  | some j =>
    let j := jobNow c s j
    s.setKnife { s.knife with job := some j, speed := if s.knife.run then j.speed else s.knife.speed }

/-! ### STIRRING (R59, R130) -/

/-- Entry into STIRRING / RUN at the stir speed; a stir time of 0 ends STIRRING in the same event (R130). -/
def enterStirRun (c : RunConfig) (s : State) : State :=
  let s := retune c (enterStep .stirring .run s)
  match batchRecipe c s with
  | none => s
  | some r => if duration r.stirTime = 0 then enterMoulding c s else s

/-- Entry into STIRRING / RAMP; a ramp time of 0 passes to RUN in the same event (R130). -/
def enterStirRamp (c : RunConfig) (s : State) : State :=
  let s := enterStep .stirring .ramp s
  match batchRecipe c s with
  | none => s
  | some r => if duration r.rampTime = 0 then enterStirRun c s else s

/-! ### Faults (R127) -/

/-- The drive faults: RUN off, SPEED 0, FAULTED with the job in force; the kind is raised with the speed before, and
KNIFE is added to the hold-reason set, whose hold withdraws the job (R127, R128). -/
def faultDrive (c : RunConfig) (k : AlertKind) (s : State) : State :=
  let before := s.knife.speed
  addReason .knife (raise c k before (s.setKnife (s.knife.halt .faulted)))

/-! ### Starting (R123) -/

/-- The start at the end of the dwell: direction, RUN on, the job's speed, grace 0, STARTING; "RUN on in STIR" ends
STIRRING / DWELL (R123, R130). -/
def startDrive (c : RunConfig) (s : State) : State :=
  match s.knife.job with
  | none => s
  | some j =>
    let j := jobNow c s j
    let s := s.setKnife { s.knife with
      state := .starting, job := some j, continuing := false, run := true, reverse := j.kind.direction, speed := j.speed,
      graceMs := 0, secondMs := 0 }
    if j.kind = .stir ∧ s.seq.step = .stirring ∧ s.seq.phase = .dwell then enterStirRamp c s else s

/-! ### Requests (R122 to R124) -/

/-- A block requests a job, which replaces the job in force: with DRIVE FAULT active the drive faults; in STOPPED it
enters DWELL, left at once when RUN has been off long enough; in DWELL the dwell goes on for the new job; while RUN is
on, the same direction takes the new speed and the other direction stops the drive for a whole dwell (R122 to R124,
R127). A request that finds the drive FAULTED leaves it so with the new job in force (log 29, DEDUCED). -/
def requestJob (c : RunConfig) (j : Job) (s : State) : State :=
  let j := jobNow c s j
  let inForce := s.setKnife { s.knife with job := some j, continuing := false }
  if s.lines.driveFault then faultDrive c .knifeDriveFault inForce
  else
    match s.knife.state with
    | .stopped =>
      let s := inForce.setKnife { inForce.knife with state := .dwell }
      if dwellComplete c s then startDrive c s else s
    | .dwell => inForce
    | .faulted => inForce
    | .starting =>
      if s.knife.reverse = j.kind.direction then retune c inForce
      else inForce.setKnife (inForce.knife.halt .dwell)
    | .running =>
      if s.knife.reverse = j.kind.direction then retune c inForce
      else inForce.setKnife (inForce.knife.halt .dwell)

/-! ### The end of the cut and of the stir (R129, R130) -/

/-- CUTTING is over: STIRRING / DWELL with its timers at 0, and STIR replaces CUT (R129, R130). -/
def enterStirring (c : RunConfig) (s : State) : State :=
  let s := enterStep .stirring .dwell s
  let s := s.setKnife { s.knife with rampElapsed := 0, stirElapsed := 0 }
  requestJob c { kind := .stir, speed := 0 } s

/-- Whether the job in force is of a kind. -/
def jobIs (k : JobKind) (s : State) : Bool :=
  match s.knife.job with
  | none => false
  | some j => j.kind = k

/-- Cut elapsed has reached the cut duration (R129). -/
def cutRun (c : RunConfig) (s : State) : Bool :=
  s.seq.step = .cutting && s.knife.state = .running && jobIs .cut s &&
    match batchRecipe c s with
    | none => false
    | some r => decide (duration r.cutDuration ≤ s.knife.cutElapsed)

/-- Ramp elapsed has reached the ramp time (R130). -/
def rampRun (c : RunConfig) (s : State) : Bool :=
  s.seq.step = .stirring && s.seq.phase = .ramp && s.knife.state = .running && jobIs .stir s &&
    match batchRecipe c s with
    | none => false
    | some r => decide (duration r.rampTime ≤ s.knife.rampElapsed)

/-- Stir elapsed has reached the stir time (R130). -/
def stirRun (c : RunConfig) (s : State) : Bool :=
  s.seq.step = .stirring && s.seq.phase = .run && s.knife.state = .running && jobIs .stir s &&
    match batchRecipe c s with
    | none => false
    | some r => decide (duration r.stirTime ≤ s.knife.stirElapsed)

def checkCutRun (c : RunConfig) (s : State) : State := if cutRun c s then enterStirring c s else s

def checkRampRun (c : RunConfig) (s : State) : State := if rampRun c s then enterStirRun c s else s

def checkStirRun (c : RunConfig) (s : State) : State := if stirRun c s then enterMoulding c s else s

/-- A drive second (R126, R129, R130): the profile timer of the sequencer's job advances, the ramp speed is computed
afresh, and a timer that reaches its end reports in the same event. -/
def driveSecond (c : RunConfig) (s : State) : State :=
  if s.knife.state ≠ .running then s
  else
    match s.knife.job with
    | none => s
    | some j =>
      match j.kind with
      | .cut => checkCutRun c (s.setKnife { s.knife with cutElapsed := satAdd 65535 s.knife.cutElapsed 1 })
      | .stir =>
        if s.seq.phase = .ramp then
          checkRampRun c (retune c (s.setKnife { s.knife with rampElapsed := satAdd 65535 s.knife.rampElapsed 1 }))
        else if s.seq.phase = .run then
          checkStirRun c (retune c (s.setKnife { s.knife with stirElapsed := satAdd 65535 s.knife.stirElapsed 1 }))
        else s
      | .fillStir => s
      | .mix => s

/-- The end of the reverse dwell (R123, R125): a job in force starts; a dwell continuing after a withdrawal rests in
the withdrawn job's direction with RUN off. -/
def endDwell (c : RunConfig) (s : State) : State :=
  if s.knife.state = .dwell ∧ dwellComplete c s = true then
    match s.knife.job with
    | none => s.setKnife { s.knife with state := .stopped, reverse := s.knife.restDir, continuing := false }
    | some _ => startDrive c s
  else s

/-- The grace time reaches 5 s (R126). -/
def endGrace (s : State) : State :=
  if s.knife.state = .starting ∧ 5000 ≤ s.knife.graceMs then
    s.setKnife { s.knife with state := .running, stallMs := 0, secondMs := 0 }
  else s

/-- The stall time reaches 3 s in RUNNING (R127). -/
def checkStall (c : RunConfig) (s : State) : State :=
  if s.knife.state = .running ∧ 3000 ≤ s.knife.stallMs then faultDrive c .knifeStall s else s

/-- A counted TURN edge (R126); outside RUNNING the stall time stands (log 49, DESIGN CHOICE). -/
def turnEdge (s : State) : State :=
  s.setKnife { s.knife with
    turns := satAdd 65535 s.knife.turns 1, stallMs := if s.knife.state = .running then 0 else s.knife.stallMs }

/-- DRIVE FAULT goes active (R127): with a job in force the drive faults; without one KNIFE_DRIVE_FAULT alone is
raised. -/
def driveFaultRises (c : RunConfig) (s : State) : State :=
  match s.knife.job with
  | none => raise c .knifeDriveFault 0 s
  | some _ => if s.knife.state = .faulted then s else faultDrive c .knifeDriveFault s

/-! ### The commands -/

/-- REVERSE_DWELL_END (R123). -/
def execReverseDwellEnd (s : State) : Host.Outcome State Fault Refusal :=
  event s (whenRunning s fun c => endDwell c s)

/-- START_GRACE_END (R126). -/
def execStartGraceEnd (s : State) : Host.Outcome State Fault Refusal :=
  event s (whenRunning s fun _ => endGrace s)

/-- DRIVE_SECOND (R126). -/
def execDriveSecond (s : State) : Host.Outcome State Fault Refusal :=
  event s (whenRunning s fun c => driveSecond c s)

/-- CUT_DURATION_RUN (R129). -/
def execCutDurationRun (s : State) : Host.Outcome State Fault Refusal :=
  event s (whenRunning s fun c => checkCutRun c s)

/-- RAMP_TIME_RUN (R130). -/
def execRampTimeRun (s : State) : Host.Outcome State Fault Refusal :=
  event s (whenRunning s fun c => checkRampRun c s)

/-- STIR_TIME_RUN (R130). -/
def execStirTimeRun (s : State) : Host.Outcome State Fault Refusal :=
  event s (whenRunning s fun c => checkStirRun c s)

/-- TURN_EDGE (R126): an edge of the sensitivity set. -/
def execTurnEdge (rising : Bool) (s : State) : Host.Outcome State Fault Refusal :=
  let s' := s.setLines { s.lines with turn := rising }
  event s (whenRunning s' fun c => if countsEdge c.lines.turn rising then turnEdge s' else s')

/-- KNIFE_STALL (R127). -/
def execKnifeStall (s : State) : Host.Outcome State Fault Refusal :=
  event s (whenRunning s fun c => checkStall c s)

/-- DRIVE_FAULT_ACTIVE (R127): the line takes its new level; only going active acts. -/
def execDriveFaultActive (level : Bool) (s : State) : Host.Outcome State Fault Refusal :=
  let rises := level && !s.lines.driveFault
  let s' := s.setLines { s.lines with driveFault := level }
  event s (whenRunning s' fun c => if rises then driveFaultRises c s' else s')

end Sys2Proof.Machine
end

