-- ==== Sys2Proof/Machine/Setting.lean ====
section
/-! DEFINITION. Chapter 6: the set clock, the mix, firmness sampling, flocculation, the cut time and the cut falling due. -/

namespace Sys2Proof.Machine

/-! ### The cut (R74, R115, R129) -/

/-- The set-clock time of the present moment: a second that has fallen counts, though its SET_CLOCK_SECOND has not been
taken (R102, R116; log 26, DESIGN CHOICE). -/
def CoagState.now (x : CoagState) : Nat := if x.secondFallen then satAdd 65535 x.clock 1 else x.clock

/-- CUTTING begins (R102, R115, R129): the monitor stops its clock, which has reached `at`, and is INACTIVE; the
lateness is recorded; cut elapsed is 0 and the CUT job is requested, replacing a mix job still in force (R122). -/
def enterCutting (c : RunConfig) (r : Recipe) (at_ lateness : Nat) (s : State) : State :=
  let s := s.setCoag { s.coag with
    state := .inactive, ticking := false, clock := max s.coag.now at_, secondFallen := false, mixJob := false,
    readings := [] }
  let s := enterStep .cutting .none (changeRecord (fun b => { b with lateness := lateness }) s)
  let s := s.setKnife { s.knife with cutElapsed := 0 }
  requestJob c { kind := .cut, speed := r.cutSpeed } s

/-- The cut falls due at set-clock time `at_` (R115): the record takes the reckoned cut time and the reason; unheld,
CUTTING begins in the same event; held, the monitor waits in DUE (R74). -/
def cutFallsDue (c : RunConfig) (r : Recipe) (at_ : Nat) (s : State) : State :=
  let time := s.coag.cutAt.getD at_
  let s := changeRecord (fun b => { b with cutTime := time, cutReason := s.coag.reason }) s
  if held s then s.setCoag { s.coag with state := .due, dueAt := at_, readings := [] }
  else enterCutting c r at_ 0 s

/-! ### NO_FLOC and the sensor fault (R107, R114) -/

/-- The monitor states in which the set clock reaching T_MAX ends the search (R114). -/
def MonitorState.searching : MonitorState → Bool
  | .mix => true
  | .watch => true
  | .armed => true
  | .inactive => false
  | .pending => false
  | .due => false

/-- Sampling runs in WATCH and ARMED (R105). -/
def MonitorState.sampling : MonitorState → Bool
  | .watch => true
  | .armed => true
  | .inactive => false
  | .mix => false
  | .pending => false
  | .due => false

/-- The set clock has reached T_MAX without flocculation (R114). The cut falls due in the same event and NO_FLOC
carries the step it was raised in (log 22, DESIGN CHOICE). -/
def noFloc (c : RunConfig) (r : Recipe) (s : State) : State :=
  let detail := if s.coag.state = .armed then s.coag.peak else 0
  let s' := withdrawJobs JobKind.ofMonitor
    (s.setCoag { s.coag with cutAt := some (duration r.tMax), reason := .noFloc, mixJob := false, readings := [] })
  raiseIn c .noFloc detail (batchNumber s) s.seq.step (cutFallsDue c r (duration r.tMax) s')

def checkNoFloc (c : RunConfig) (r : Recipe) (s : State) : State :=
  if s.seq.step = .setting ∧ s.coag.state.searching = true ∧ duration r.tMax ≤ s.coag.clock then noFloc c r s else s

/-- The rail run has reached 3 in sampling at set-clock time `now` (R107): the cut is set at T_FALLBACK if that lies
ahead, and falls due at once otherwise. -/
def firmnessFault (c : RunConfig) (r : Recipe) (now : Nat) (s : State) : State :=
  let mean := s.coag.lastMean
  let s' := s.setCoag { s.coag with reason := .sensor, readings := [] }
  if now < duration r.tFallback then
    raise c .firmnessSensor mean
      (s'.setCoag { s'.coag with cutAt := some (duration r.tFallback), state := .pending })
  else
    raiseIn c .firmnessSensor mean (batchNumber s) s.seq.step
      (cutFallsDue c r now (s'.setCoag { s'.coag with cutAt := some now }))

def checkFirmnessFault (c : RunConfig) (r : Recipe) (now : Nat) (s : State) : State :=
  if s.seq.step = .setting ∧ s.coag.state.sampling = true ∧ s.coag.railRun = 3 then firmnessFault c r now s else s

/-- The pending cut falls due as the set clock reaches it (R115). -/
def checkCutDue (c : RunConfig) (r : Recipe) (s : State) : State :=
  match s.coag.cutAt with
  | none => s
  | some t =>
    if s.seq.step = .setting ∧ s.coag.state = .pending ∧ t ≤ s.coag.clock then cutFallsDue c r t s else s

/-! ### The mix (R103 to R105) -/

/-- Entry into SETTING / QUIET (R105). -/
def enterQuiet (s : State) : State :=
  let s := s.setCoag { s.coag with
    state := .watch, quietStart := s.coag.clock, index := 0, window := [], railRun := 0, readings := [], sampleMs := 0 }
  enterStep .setting .quiet s

/-- The mix is over: its job is withdrawn and QUIET begins (R103). -/
def endMix (s : State) : State :=
  enterQuiet (withdrawJobs JobKind.ofMonitor (s.setCoag { s.coag with mixJob := false }))

def checkMixEnd (r : Recipe) (s : State) : State :=
  if s.seq.step = .setting ∧ s.coag.state = .mix ∧ held s = false ∧ duration r.mixTime ≤ s.coag.mixTimer then endMix s else s

/-- The mix job at the recipe's mix speed; a speed of 0 requests none (R103). -/
def requestMix (c : RunConfig) (r : Recipe) (s : State) : State :=
  if r.mixSpeed = 0 then s
  else requestJob c { kind := .mix, speed := r.mixSpeed } (s.setCoag { s.coag with mixJob := true })

/-- Entry into SETTING / MIX at the end of the dose (R96, R102, R103): the set clock starts at 0, the figures reckoned
for the batch before are cleared (R118; log 38, DEDUCED), the fill-stir job gives way to the mix job, and a mix time of
0 passes to QUIET. -/
def enterMix (c : RunConfig) (r : Recipe) (s : State) : State :=
  let s := s.setCoag { s.coag with
    state := .mix, clock := 0, ticking := true, clockMs := 0, secondFallen := false, mixTimer := 0,
    flocTime := none, detectTime := none, cutAt := none, reason := .predicted }
  let s := enterStep .setting .mix (s.setFill { s.fill with stirJob := false })
  if duration r.mixTime = 0 then enterQuiet (withdrawJobs JobKind.ofFill s)
  else if r.mixSpeed = 0 then withdrawJobs JobKind.ofFill s
  else requestMix c r s

/-! ### The set clock (R102) -/

/-- A set-clock second (R102): the clock advances, to at most 65535; then the mix timer, the comparison with T_MAX and
the comparison with a pending cut time. A mix that ends at the second of T_MAX ends first (log 41, DESIGN CHOICE). -/
def setClockSecond (c : RunConfig) (r : Recipe) (s : State) : State :=
  if s.coag.ticking then
    let s := s.setCoag { s.coag with clock := satAdd 65535 s.coag.clock 1, secondFallen := false }
    let s :=
      if s.coag.state = .mix ∧ held s = false then s.setCoag { s.coag with mixTimer := s.coag.mixTimer + 1 } else s
    checkCutDue c r (checkNoFloc c r (checkMixEnd r s))
  else s

/-! ### Sampling (R105 to R113) -/

/-- The set-clock time at which sample k completes: t_q + (k + 1) × P (R105). -/
def sampleTime (r : Recipe) (co : CoagState) (k : Nat) : Nat := co.quietStart + (k + 1) * r.period

/-- A rail mean: 16 or less, or 4079 or more (R106). -/
def railMean (mean : Nat) : Bool := decide (mean ≤ 16) || decide (4079 ≤ mean)

/-- The window after a good sample joins: the newest five (R108). -/
def joinWindow (w : List Nat) (mean : Nat) : List Nat := (w ++ [mean]).drop (w.length + 1 - 5)

/-- The slope over a full window: the newest less the oldest (R108). -/
def windowSlope (w : List Nat) : Option Int :=
  match w with
  | [a, _, _, _, e] => some ((e : Int) - a)
  | _ => none

/-- The clamped cut time with its reason (R112). -/
def clampCut (r : Recipe) (floc : Nat) : Nat × CutReason :=
  let t := (floc * r.multiplier + 8) / 16
  if t < duration r.tMin then (duration r.tMin, .clampedMin)
  else if duration r.tMax < t then (duration r.tMax, .clampedMax)
  else (t, .predicted)

/-- Flocculation is detected at `now` (R111 to R113): the flocculation time is recorded and the cut reckoned, falling
due at once when it is not after the detection. -/
def detectFlocculation (c : RunConfig) (r : Recipe) (now : Nat) (s : State) : State :=
  let floc := sampleTime r s.coag s.coag.peakIndex - 2 * r.period
  let cut := clampCut r floc
  let s := changeRecord (fun b => { b with flocTime := some floc }) s
  let s := s.setCoag { s.coag with flocTime := some floc, detectTime := some now, readings := [] }
  if cut.1 ≤ now then
    cutFallsDue c r now (s.setCoag { s.coag with cutAt := some now, reason := .lateDetect })
  else s.setCoag { s.coag with cutAt := some cut.1, reason := cut.2, state := .pending }

/-- A slope formed at sample k (R109 to R111): in WATCH it may arm; in ARMED it may move the peak and then detect. -/
def takeSlope (c : RunConfig) (r : Recipe) (k now : Nat) (slope : Int) (s : State) : State :=
  if s.coag.state = .watch then
    if (r.minSlope : Int) ≤ slope then
      s.setCoag { s.coag with state := .armed, peak := slope.toNat, peakIndex := k }
    else s
  else if (s.coag.peak : Int) < slope then s.setCoag { s.coag with peak := slope.toNat, peakIndex := k }
  else if slope ≤ ((s.coag.peak * 3 / 4 : Nat) : Int) then detectFlocculation c r now s
  else s

/-- A completed sample's mean is taken in (R105, R106, R108 to R111). -/
def takeSample (c : RunConfig) (r : Recipe) (mean : Nat) (s : State) : State :=
  let k := s.coag.index
  let now := sampleTime r s.coag k
  let s := s.setCoag { s.coag with lastMean := mean, index := satAdd 65535 k 1, readings := [], sampleMs := 0 }
  if railMean mean then
    checkFirmnessFault c r now
      (s.setCoag { s.coag with railRun := min 3 (s.coag.railRun + 1), window := [], slope := none })
  else
    let w := joinWindow s.coag.window mean
    let s := s.setCoag { s.coag with railRun := 0, window := w, slope := windowSlope w }
    match windowSlope w with
    | none => s
    | some slope => takeSlope c r k now slope s

/-- One reading of the FIRMNESS input in WATCH or ARMED (R105): the first seven join the sample in progress; the eighth
completes it, at the set-clock second t_k or as that second falls (log 26, DESIGN CHOICE). -/
def takeReading (c : RunConfig) (r : Recipe) (raw : Raw) (s : State) : State :=
  if s.seq.step = .setting ∧ s.coag.state.sampling = true then
    if s.coag.readings.length < 7 then
      s.setCoag { s.coag with readings := s.coag.readings ++ [raw.toNat], lastRaw := raw.toNat }
    else
      let t := sampleTime r s.coag s.coag.index
      if s.coag.clock = t ∨ s.coag.clock + 1 = t then
        takeSample c r ((s.coag.readings.sum + raw.toNat) / 8)
          (s.setCoag { s.coag with lastRaw := raw.toNat, secondFallen := s.coag.secondFallen || s.coag.clock + 1 == t })
      else s
  else s

/-! ### Stops (R118) -/

/-- ABORT or ESTOP in SETTING: the mix job is withdrawn, sampling ends, the set clock stops, INACTIVE (R118). The clock
keeps the seconds that its SET_CLOCK_SECONDs have counted: a second that has fallen and waits for its own is not added
(log 26, DESIGN CHOICE). -/
def stopMonitor (s : State) : State :=
  if s.seq.step = .setting then
    withdrawJobs JobKind.ofMonitor
      (s.setCoag { s.coag with
        state := .inactive, ticking := false, secondFallen := false, mixJob := false, readings := [] })
  else s

/-- An effect that needs the running batch's recipe. -/
def withRecipe (c : RunConfig) (s : State) (f : Recipe → State) : State :=
  match batchRecipe c s with
  | none => s
  | some r => f r

/-! ### The commands -/

/-- SET_CLOCK_SECOND (R102). -/
def execSetClockSecond (s : State) : Host.Outcome State Fault Refusal :=
  event s (whenRunning s fun c => withRecipe c s fun r => setClockSecond c r s)

/-- MIX_END (R103). -/
def execMixEnd (s : State) : Host.Outcome State Fault Refusal :=
  event s (whenRunning s fun c => withRecipe c s fun r => checkMixEnd r s)

/-- SAMPLE_COMPLETE (R105): the eighth reading of the sample in progress. -/
def execSampleComplete (raw : Raw) (s : State) : Host.Outcome State Fault Refusal :=
  let s' := s.setLines { s.lines with firmness := raw }
  event s (whenRunning s' fun c => withRecipe c s' fun r =>
    if s'.coag.readings.length = 7 then takeReading c r raw s' else s')

/-- FIRMNESS_READING (R105). -/
def execFirmnessReading (raw : Raw) (s : State) : Host.Outcome State Fault Refusal :=
  let s' := s.setLines { s.lines with firmness := raw }
  event s (whenRunning s' fun c => withRecipe c s' fun r => takeReading c r raw s')

/-- FIRMNESS_SENSOR (R107): judged at the completion of the last sample. -/
def execFirmnessSensor (s : State) : Host.Outcome State Fault Refusal :=
  event s (whenRunning s fun c => withRecipe c s fun r =>
    checkFirmnessFault c r (sampleTime r s.coag (s.coag.index - 1)) s)

/-- NO_FLOC (R114). -/
def execNoFloc (s : State) : Host.Outcome State Fault Refusal :=
  event s (whenRunning s fun c => withRecipe c s fun r => checkNoFloc c r s)

/-- CUT_DUE (R115). -/
def execCutDue (s : State) : Host.Outcome State Fault Refusal :=
  event s (whenRunning s fun c => withRecipe c s fun r => checkCutDue c r s)

end Sys2Proof.Machine
end

