-- ==== Sys2Proof/Machine/Filling.lean ====
section
/-! DEFINITION. Chapter 5: the meter, the flow command and valve duty, the close at the target, the settle, the dose and
the faults of the fill; and the release of a hold (R73 to R76). -/

namespace Sys2Proof.Machine

/-- The vat is in a phase of FILLING. -/
def inFilling (ph : Phase) (s : State) : Bool := s.seq.step = .filling && s.seq.phase = ph

/-! ### Counting milk (R86) -/

/-- A counted edge: the window count, and the totaliser in the counting span or the stray edges outside it; the
no-pulse time returns to 0 (R86, R94). -/
def FillState.count (f : FillState) (pulse : Nat) : FillState :=
  { f with
    window := satAdd 65535 f.window 1
    totaliser := if f.spanOpen then satAdd 4294967295 f.totaliser pulse else f.totaliser
    stray := if f.spanOpen then f.stray else satAdd 65535 f.stray 1
    noPulse := 0 }

/-! ### Cover and target (R91, R92) -/

/-- The cover volume has been passed and the recipe stirs the fill (R91). -/
def coverPassed (r : Recipe) (s : State) : Bool := decide (0 < r.fillStir) && decide (r.cover * 1000 ≤ s.fill.totaliser)

/-- Request the fill-stir job at the recipe's speed (R91). -/
def requestStir (c : RunConfig) (r : Recipe) (s : State) : State :=
  requestJob c { kind := .fillStir, speed := r.fillStir } (s.setFill { s.fill with stirJob := true })

/-- The totaliser reaches the cover volume in unheld FLOW (R91). -/
def checkCover (c : RunConfig) (r : Recipe) (s : State) : State :=
  if inFilling .flow s ∧ held s = false ∧ coverPassed r s = true ∧ s.fill.stirJob = false then requestStir c r s else s

/-- The end of FLOW (R92): Q_cmd and the duty 0, the MILK claim dropped, FILLING / SETTLE. -/
def endFlow (s : State) : State := enterStep .filling .settle (dropClaim .milk (s.setFill (s.fill.steer 0)))

/-- The totaliser is at or above the target less the close allowance (R92). -/
def targetReached (r : Recipe) (s : State) : Bool := decide ((r.target - r.allowance) * 1000 ≤ s.fill.totaliser)

/-- The target check of FLOW, held or not (R92). -/
def checkTarget (r : Recipe) (s : State) : State := if inFilling .flow s ∧ targetReached r s = true then endFlow s else s

/-- A counted edge with the checks it brings (R86, R91, R92): the fill stir is requested before FLOW ends (log 53, DESIGN
CHOICE). -/
def meterEdge (c : RunConfig) (s : State) : State :=
  let s := s.setFill (s.fill.count c.fill.pulseVolume)
  withRecipe c s fun r => checkTarget r (checkCover c r s)

/-! ### FLOW (R88 to R90, R94, R95) -/

/-- The MILK claim with the recipe's figures (R42, R88). -/
def claimMilk (r : Recipe) (s : State) : State := presentClaim .milk r.fillLevel r.fillRate r.fillFloor s

/-- The Fill Unit takes FLOW at an accepted START (R88): unheld it presents the MILK claim, and the cover counts (R91);
held or not, the target check is made on entry (R92). -/
def startFill (c : RunConfig) (r : Recipe) (s : State) : State :=
  let s := s.setFill
    { s.fill.steer 0 with
      totaliser := 0, spanOpen := true, slowRaised := false, flowElapsed := 0, settle := 0, dosed := 0 }
  checkTarget r (checkCover c r (if held s then s else claimMilk r s))

/-- The measured flow of the second just ended (R87). -/
def FillState.measure (f : FillState) (pulse : Nat) : FillState :=
  { f with qMeas := f.window * pulse * 60 / 1000, window := 0 }

/-- The duty after one turn of the loop (R90). -/
def FillState.nextDuty (f : FillState) (gain : Nat) : Nat :=
  clampDuty ((f.duty : Int) + ((((f.qCmd : Int) - f.qMeas) * gain).tdiv 64))

/-- The flow command, duty and no-pulse time of a fill second in unheld FLOW (R89, R90, R94); the second at which Q_cmd
rises counts too (log 48, DEDUCED). -/
def FillState.flowSecond (f : FillState) (c : FillSettings) : FillState :=
  let f := f.steer (min f.grant (f.qCmd + c.rampStep))
  if f.qCmd = 0 then f else { f with duty := f.nextDuty c.gain, noPulse := min 5 (f.noPulse + 1) }

/-- The meter fault (R94): Q_cmd and the duty 0, the claim dropped, METER added, METER_FAULT raised with the command.
-/
def faultMeter (c : RunConfig) (s : State) : State :=
  let command := s.fill.qCmd
  raise c .meterFault command (addReason .meter (dropClaim .milk (s.setFill (s.fill.steer 0))))

/-- The no-pulse time has reached 5 s (R94). -/
def checkMeterFault (c : RunConfig) (s : State) : State :=
  if inFilling .flow s ∧ held s = false ∧ 0 < s.fill.qCmd ∧ 5 ≤ s.fill.noPulse then faultMeter c s else s

/-- FLOW elapsed has reached the fill-time limit with the mark clear (R95). -/
def slowDue (r : Recipe) (s : State) : Bool :=
  inFilling .flow s && !s.fill.slowRaised &&
    match durationLimit r.fillLimit with
    | none => false
    | some l => decide (l ≤ s.fill.flowElapsed)

def checkSlow (c : RunConfig) (r : Recipe) (s : State) : State :=
  if slowDue r s then raise c .fillSlow (s.fill.totaliser / 1000) (s.setFill { s.fill with slowRaised := true }) else s

/-- FLOW elapsed advances while the vat is not held (R95). -/
def advanceFlow (c : RunConfig) (r : Recipe) (s : State) : State :=
  if held s then s
  else checkSlow c r (s.setFill { s.fill with flowElapsed := satAdd 65535 s.fill.flowElapsed 1 })

/-! ### SETTLE and DOSE (R93, R96) -/

/-- The end of SETTLE (R93): the span shuts, the record takes filled volume and overrun, and DOSE begins, its pump on
unless the vat is held (R96). -/
def endSettle (r : Recipe) (s : State) : State :=
  let overrun := ((s.fill.totaliser : Int) - (r.target : Int) * 1000).tdiv 1000
  let s := changeRecord (fun b => { b with filled := s.fill.totaliser, overrun := overrun }) s
  let s := enterStep .filling .dose (s.setFill { s.fill with spanOpen := false })
  s.setFill { s.fill with dosePump := !held s }

def checkSettle (r : Recipe) (s : State) : State :=
  if inFilling .settle s ∧ held s = false ∧ 5 ≤ s.fill.settle then endSettle r s else s

/-- The end of DOSE (R96): the pump off, the fill-stir job withdrawn, SETTING / MIX. -/
def endDose (c : RunConfig) (r : Recipe) (s : State) : State := enterMix c r (s.setFill { s.fill with dosePump := false })

def checkDose (c : RunConfig) (r : Recipe) (s : State) : State :=
  if inFilling .dose s ∧ held s = false ∧ duration r.doseTime ≤ s.fill.dosed then endDose c r s else s

/-! ### The fill second (R87) -/

/-- What a fill second does in the phase it finds: the command, duty and faults in FLOW, or the timer of SETTLE or
DOSE. -/
def phaseSecond (c : RunConfig) (r : Recipe) (s : State) : State :=
  if s.seq.step ≠ .filling ∨ held s = true then s
  else
    match s.seq.phase with
    | .flow => advanceFlow c r (checkMeterFault c (s.setFill (s.fill.flowSecond c.fill)))
    | .settle => checkSettle r (s.setFill { s.fill with settle := min 5 (s.fill.settle + 1) })
    | .dose => checkDose c r (s.setFill { s.fill with dosed := min 600 (s.fill.dosed + 1) })
    | _ => s

/-- A fill second (R87), taken in the order Q_meas, command, duty, no-pulse time, FLOW elapsed, timers. -/
def fillSecond (c : RunConfig) (s : State) : State :=
  let s := s.setFill (s.fill.measure c.fill.pulseVolume)
  withRecipe c s fun r => phaseSecond c r s

/-! ### Stops (R98) -/

/-- ABORT or ESTOP at the Fill Unit: in FILLING it gives up its part; in any other step it is idle already. -/
def stopFill (s : State) : State :=
  if s.seq.step = .filling then
    dropClaim .milk
      (withdrawJobs JobKind.ofFill
        (s.setFill { s.fill.steer 0 with dosePump := false, stirJob := false, spanOpen := false }))
  else s

/-! ### The release of a hold (R73 to R76) -/

/-- FILLING released (R73, R97): in FLOW the target check comes first and the claim is raised anew; in every phase the
fill-stir job is requested again if the cover volume has been passed; in DOSE the pump goes on. -/
def releaseFilling (c : RunConfig) (r : Recipe) (s : State) : State :=
  let s := checkTarget r s
  let s := if inFilling .flow s then claimMilk r s else s
  let s := if inFilling .dose s then s.setFill { s.fill with dosePump := true } else s
  if coverPassed r s then requestStir c r s else s

/-- SETTING released (R74): a cut that fell due begins with its lateness; in MIX the mix runs on. -/
def releaseSetting (c : RunConfig) (r : Recipe) (s : State) : State :=
  match s.coag.state with
  | .due => enterCutting c r s.coag.dueAt (s.coag.now - s.coag.dueAt) s
  | .mix => requestMix c r s
  | .inactive => s
  | .watch => s
  | .armed => s
  | .pending => s

/-- The step is released (R61): its work goes on from where the hold left it. -/
def release (c : RunConfig) (s : State) : State :=
  withRecipe c s fun r =>
    match s.seq.step with
    | .filling => releaseFilling c r s
    | .setting => releaseSetting c r s
    | .cutting => requestJob c { kind := .cut, speed := r.cutSpeed } s
    | .stirring => requestJob c { kind := .stir, speed := 0 } s
    | .moulding => s.setSeq { s.seq with outlet := true, fillerRequest := false }
    | .idle => s
    | .stopped => s

/-- Reasons leave the set (R61): a set that empties releases the step. -/
def setHold (c : RunConfig) (h : HoldSet) (s : State) : State :=
  let was := held s
  let s := s.setSeq { s.seq with hold := h }
  if was ∧ held s = false then release c s else s

/-! ### The commands -/

/-- METER_EDGE (R86): an edge of the sensitivity set is counted. -/
def execMeterEdge (rising : Bool) (s : State) : Host.Outcome State Fault Refusal :=
  let s' := s.setLines { s.lines with meter := rising }
  event s (whenRunning s' fun c => if countsEdge c.lines.meter rising then meterEdge c s' else s')

/-- COVER_VOLUME_REACHED (R91). -/
def execCoverVolumeReached (s : State) : Host.Outcome State Fault Refusal :=
  event s (whenRunning s fun c => withRecipe c s fun r => checkCover c r s)

/-- FILL_TARGET_REACHED (R92). -/
def execFillTargetReached (s : State) : Host.Outcome State Fault Refusal :=
  event s (whenRunning s fun c => withRecipe c s fun r => checkTarget r s)

/-- FILL_SECOND (R87). -/
def execFillSecond (s : State) : Host.Outcome State Fault Refusal :=
  event s (whenRunning s fun c => fillSecond c s)

/-- METER_FAULT (R94). -/
def execMeterFault (s : State) : Host.Outcome State Fault Refusal :=
  event s (whenRunning s fun c => checkMeterFault c s)

/-- FILL_SLOW (R95). -/
def execFillSlow (s : State) : Host.Outcome State Fault Refusal :=
  event s (whenRunning s fun c => withRecipe c s fun r => checkSlow c r s)

/-- SETTLE_END (R93). -/
def execSettleEnd (s : State) : Host.Outcome State Fault Refusal :=
  event s (whenRunning s fun c => withRecipe c s fun r => checkSettle r s)

/-- DOSE_END (R96). -/
def execDoseEnd (s : State) : Host.Outcome State Fault Refusal :=
  event s (whenRunning s fun c => withRecipe c s fun r => checkDose c r s)

end Sys2Proof.Machine
end

