-- ==== Sys2Proof/Machine/Press.lean ====
section
/-! DEFINITION. Chapter 9 without its commands: the schedule of a head, the AIR claim and the served set, the output
stages and the head table; and the handing of loads to heads (R139, R141). -/

namespace Sys2Proof.Machine

/-! ### Heads and their stages (R144, R147) -/

def Head.fitted (hd : Head) : Bool := hd.state != .unfitted

/-- RAMP or HOLD: the states with a regulated output (Table 9-1). -/
def Head.regulated (hd : Head) : Bool := hd.state == .ramp || hd.state == .hold

/-- The recipe of the load on the head (R133). -/
def Head.recipe (c : RunConfig) (hd : Head) : Option Recipe := hd.load.bind fun l => c.recipe l.slot

/-- Stage n of a schedule, counted from 1. -/
def Recipe.stage (r : Recipe) (n : Nat) : Option Stage := if n = 0 then none else r.stages[n - 1]?

/-- The stage the head is in (R147). -/
def Head.stageNow (c : RunConfig) (hd : Head) : Option Stage := (hd.recipe c).bind fun r => r.stage hd.stage

/-- Enter HOLD (R148). -/
def Head.enterHold (hd : Head) : Head :=
  { hd with state := .hold, accumulator := 0, holdTimer := 0, faultSteps := 0, under := false }

/-- Enter VENT (R151, R158, R159). The stage index keeps the stage the schedule ended in until the unloading makes it 0
(R155; log 61, DEDUCED). -/
def Head.enterVent (hd : Head) : Head := { hd with state := .vent, ventSteps := 0 }

/-- A head in RAMP at its stage passes on for as long as nothing is left to do in a stage: to HOLD when the stage
pressure equals the target, and through a hold of 0 s to the next stage or to VENT (R147, R148, R151). A recipe stores
six stages: a stage count above 6, outside its range, leads to a stage with no figures, in which the head stays in RAMP
at its target and steps no more (log 64, DESIGN CHOICE). -/
def Head.passStages (r : Recipe) : Nat → Head → Head
  | 0, hd => hd
  | k + 1, hd =>
    match r.stage hd.stage with
    | none => hd
    | some g =>
      if g.pressure * 10 ≠ hd.target then hd
      else if 0 < duration g.hold then hd.enterHold
      else if hd.stage < r.stageCount then
        passStages r k { hd.enterHold with state := .ramp, stage := hd.stage + 1 }
      else hd.enterHold.enterVent

/-- A stage is entered in RAMP (R147); a schedule has at most six stages, so seven turns pass through all. -/
def Head.enterRamp (r : Recipe) (stage : Nat) (hd : Head) : Head :=
  Head.passStages r 7 { hd with state := .ramp, stage := stage, accumulator := 0 }

/-- The stage hold is over (R151): the next stage, or VENT when the schedule is complete. -/
def Head.endStage (r : Recipe) (hd : Head) : Head :=
  if hd.stage < r.stageCount then hd.enterRamp r (hd.stage + 1) else hd.enterVent

/-- A FREE head takes a load (R147). -/
def Head.takeLoad (c : RunConfig) (l : Load) (hd : Head) : Head :=
  let hd := { hd with
    load := some l, target := 0, holdTimer := 0, faultSteps := 0, ventSteps := 0, under := false, occupied := true }
  match c.recipe l.slot with
  | none => { hd with state := .ramp, stage := 1, accumulator := 0 }
  | some r => hd.enterRamp r 1

/-! ### Stepping (R148, R151, R157) -/

/-- Whether heads in RAMP and HOLD are frozen: the guard open in guard mode HOLD (R157). -/
def frozen (c : RunConfig) (s : State) : Bool := !c.press.guardVents && s.lines.guardOpen

/-- One ramp step toward the stage pressure `p` tenths at `rate` kPa/min (R148). -/
def Head.stepRamp (p rate : Nat) (hd : Head) : Head :=
  let sum := hd.accumulator + rate * 10
  { hd with
    accumulator := sum % 60
    target := if hd.target < p then min p (hd.target + sum / 60) else max p (hd.target - sum / 60) }

/-- A press second of a head that is not frozen (R148, R151). -/
def Head.stepSecond (c : RunConfig) (served : Bool) (hd : Head) : Head :=
  match hd.recipe c, hd.stageNow c with
  | some r, some g =>
    match hd.state with
    | .ramp =>
      if hd.target < g.pressure * 10 ∧ served = false then hd
      else Head.passStages r 7 (hd.stepRamp (g.pressure * 10) g.rate)
    | .hold =>
      let hd := { hd with holdTimer := min 37800 (hd.holdTimer + 1) }
      if duration g.hold ≤ hd.holdTimer then hd.endStage r else hd
    | .unfitted => hd
    | .free => hd
    | .vent => hd
    | .unload => hd
    | .out => hd
  | _, _ => hd

/-! ### The rising set, the AIR claim and the served set (R149, R150) -/

/-- A head in RAMP whose stage pressure lies above its target (R148). -/
def Head.rises (c : RunConfig) (hd : Head) : Bool :=
  hd.state == .ramp &&
    match hd.stageNow c with
    | none => false
    | some g => decide (hd.target < g.pressure * 10)

/-- The rising set, in head order (R149). -/
def risingSet (c : RunConfig) (s : State) : List HeadNo :=
  if frozen c s then [] else headNos.filter fun h => (s.head h).rises c

/-- The press level of the recipe of a head's load. -/
def Head.pressLevel (c : RunConfig) (hd : Head) : Nat :=
  match hd.recipe c with
  | none => 0
  | some r => r.pressLevel

/-- Present the AIR claim for the rising set: A × n to at most 4000, floor A, the highest press level (R43, R149). -/
def presentAir (c : RunConfig) (s : State) : State :=
  let heads := risingSet c s
  presentClaim .air (heads.foldl (fun m h => max m ((s.head h).pressLevel c)) 0)
    (min 4000 (c.press.rampAir * heads.length)) c.press.rampAir s

/-- The load sequence of the load on a head. -/
def Head.loadSequence (hd : Head) : Nat :=
  match hd.load with
  | none => 0
  | some l => l.sequence

def insertBySequence (s : State) (h : HeadNo) : List HeadNo → List HeadNo
  | [] => [h]
  | g :: gs => if (s.head h).loadSequence < (s.head g).loadSequence then h :: g :: gs else g :: insertBySequence s h gs

/-- The figure g of the served set: AIR grant div A (R150). An A of 0, outside its range, leaves it a free value of the
grant (log 64, DESIGN CHOICE). -/
def servedCount (grant rampAir : Nat) : Nat := if rampAir = 0 then Config.servedDivZero grant else grant / rampAir

/-- The served set of a press second: the first g heads of the rising set in load sequence (R150). -/
def servedSet (c : RunConfig) (s : State) : List HeadNo :=
  ((risingSet c s).foldr (insertBySequence s) []).take (servedCount s.press.airGrant c.press.rampAir)

/-! ### The output (R146) -/

/-- The level of a duty under a valve sense. -/
def senseLevel (inverted : Bool) (duty : Nat) : Nat := if inverted then 1000 - duty else duty

/-- The output stage that a head's state, its valve sense and the ESTOP line call for (R146). -/
def Head.stageDue (c : RunConfig) (estop : Bool) (h : HeadNo) (hd : Head) : OutputStage :=
  if !hd.fitted then .released
  else if hd.regulated && !estop then (if c.lines.inverted.get h then .inverted else .normal)
  else .forcedOff

/-- A change of output stage into FORCED_OFF takes effect at once, and a new output period begins (R146). The change is
one of the stage in effect (log 42, DESIGN CHOICE). -/
def Head.forceOff (c : RunConfig) (estop : Bool) (h : HeadNo) (hd : Head) : Head :=
  if hd.stageDue c estop h = .forcedOff ∧ hd.output ≠ .forcedOff then
    { hd with output := .forcedOff, line := senseLevel (c.lines.inverted.get h) 0, periodMs := 0 }
  else hd

/-- The end of an output period (R146): the stage due takes effect, and a regulated line takes the buffer. -/
def Head.endPeriod (c : RunConfig) (estop : Bool) (h : HeadNo) (hd : Head) : Head :=
  match hd.stageDue c estop h with
  | .normal => { hd with output := .normal, line := hd.duty, periodMs := 0 }
  | .inverted => { hd with output := .inverted, line := 1000 - hd.duty, periodMs := 0 }
  | .forcedOff =>
    { hd with output := .forcedOff, line := senseLevel (c.lines.inverted.get h) 0, periodMs := 0 }
  | .released => { hd with output := .released, periodMs := 0 }

/-- Apply to every head. -/
def eachHead (f : HeadNo → State → State) (s : State) : State := f 3 (f 2 (f 1 (f 0 s)))

/-- The close of an event at the Press Heads: heads whose stage became FORCED_OFF are forced off at once (R146), and
the AIR claim is presented again if the rising set changed (R149; once an event, log 25, DEDUCED). -/
def closePress (c : RunConfig) (before after : State) : State :=
  let s := eachHead (fun h s => s.setHead h ((s.head h).forceOff c s.lines.estop h)) after
  if risingSet c before = risingSet c s then s else presentAir c s

/-! ### The head table (R160) -/

/-- Write a head's record with its fail count and occupied mark as they stand. -/
def writeHeadRecord (h : HeadNo) (s : State) : State :=
  let hd := s.head h
  s.setStore { s.store with
    headTable := s.store.headTable.set h
      ((s.store.headTable.get h).write { failCount := hd.failCount, occupied := hd.occupied }) }

/-! ### The queue and assignment (R139, R141) -/

/-- The queue hold is active at 14 or more queued loads (R139). -/
def QueueState.judgeHold (q : QueueState) : QueueState := { q with queueHold := decide (14 ≤ q.loads.length) }

/-- FILLER HOLD: the queue hold or the sequencer's request (R139). -/
def fillerHold (s : State) : Bool := s.queue.queueHold || s.seq.fillerRequest

/-- The FREE head with the lowest number. -/
def freeHead (s : State) : Option HeadNo := headNos.find? fun h => (s.head h).state = .free

/-- One assignment, where its conditions hold (R141). -/
def assignOne (c : RunConfig) (s : State) : State :=
  match s.queue.loads, freeHead s with
  | l :: rest, some h =>
    if s.lines.guardOpen ∨ s.lines.estop then s
    else
      let s := s.setQueue ({ s.queue with loads := rest }).judgeHold
      writeHeadRecord h (s.setHead h ((s.head h).takeLoad c l))
  | _, _ => s

/-- The assignment check (R141): as many loads as there are FREE heads, at most four. -/
def assign (c : RunConfig) (s : State) : State := assignOne c (assignOne c (assignOne c (assignOne c s)))

/-! ### Faults of a head (R152, R153) -/

/-- The fail count has reached the fail limit while the head carries no pending-out mark and is not OUT (R153). -/
def Head.pendingOutDue (c : RunConfig) (hd : Head) : Bool :=
  hd.fitted && hd.state != .out && !hd.pendingOut && decide (c.press.failLimit ≤ hd.failCount)

/-- Take the pending-out mark where it is due (R153). -/
def Head.checkFailCount (c : RunConfig) (hd : Head) : Head :=
  if hd.pendingOutDue c then { hd with pendingOut := true } else hd

/-- Whether the load on the head already carries UNDERPRESSURE. -/
def Head.loadUnder (hd : Head) : Bool :=
  match hd.load with
  | none => false
  | some l => l.flags.underpressure

/-- Change the flags of the load on the head. -/
def Head.flagLoad (f : LoadFlags → LoadFlags) (hd : Head) : Head :=
  { hd with load := hd.load.map fun l => { l with flags := f l.flags } }

/-- Under-pressure is detected (R152). -/
def detectUnder (c : RunConfig) (h : HeadNo) (s : State) : State :=
  let hd := s.head h
  let marked := { hd with under := true, faultSteps := 0 }.flagLoad fun f => { f with underpressure := true }
  let s :=
    if hd.loadUnder then s.setHead h marked
    else
      writeHeadRecord h
        (s.setHead h ({ marked with failCount := satAdd 255 hd.failCount 1 }.checkFailCount c))
  raise c .holdUnderpressure (headNumber h) s

/-- The hold threshold in tenths, none when the hold band is at or above the stage pressure (R152). -/
def Head.threshold (c : RunConfig) (hd : Head) : Option Nat :=
  match hd.stageNow c with
  | none => none
  | some g => if g.pressure ≤ c.press.holdBand then none else some ((g.pressure - c.press.holdBand) * 10)

/-- The hold-fault timer has reached the hold-fault time, in steps of 200 ms, in an unfrozen HOLD (R152). -/
def underDue (c : RunConfig) (h : HeadNo) (s : State) : Bool :=
  let hd := s.head h
  hd.state == .hold && !frozen c s && !hd.under && decide (c.press.holdFaultTime * 5 ≤ hd.faultSteps)

def checkUnder (c : RunConfig) (h : HeadNo) (s : State) : State := if underDue c h s then detectUnder c h s else s

/-- The comparison of a drive sample in an unfrozen HOLD (R152). -/
def Head.compare (c : RunConfig) (hd : Head) : Head :=
  match hd.threshold c with
  | none => hd
  | some t =>
    if t ≤ hd.pressure then { hd with faultSteps := 0, under := false }
    else if hd.under then hd
    else { hd with faultSteps := min 600 (hd.faultSteps + 1) }

/-! ### Drive samples (R145, R146, R152, R154) -/

/-- The duty a regulated head computes (R146). -/
def Head.dutyDue (c : RunConfig) (hd : Head) : Nat :=
  clampDuty ((hd.target * c.press.kf / 256 : Nat) + (((hd.target : Int) - hd.pressure) * c.press.kp).tdiv 64)

/-- The vent is over: a drive sample in VENT has found less than 20 kPa, or 30 s have gone by (R154). -/
def Head.ventOver (hd : Head) : Bool :=
  hd.state == .vent && decide (1 ≤ hd.ventSteps) && (decide (hd.pressure < 200) || decide (150 ≤ hd.ventSteps))

def Head.checkVent (hd : Head) : Head := if hd.ventOver then { hd with state := .unload } else hd

/-- What a drive sample measures and computes at a head (R145, R146, R152, R154). -/
def Head.sample (c : RunConfig) (frozen : Bool) (raw : Raw) (hd : Head) : Head :=
  let hd := { hd with pressure := raw.toNat * 8000 / 4095 }
  let hd := { hd with duty := if hd.regulated then hd.dutyDue c else 0 }
  match hd.state with
  | .hold => if frozen then hd else hd.compare c
  | .vent => ({ hd with ventSteps := min 150 (hd.ventSteps + 1) }).checkVent
  | .unfitted => hd
  | .free => hd
  | .ramp => hd
  | .unload => hd
  | .out => hd

/-- A drive sample of one head. -/
def sampleHead (c : RunConfig) (raws : Four Raw) (h : HeadNo) (s : State) : State :=
  let hd := s.head h
  if hd.fitted then checkUnder c h (s.setHead h (hd.sample c (frozen c s) (raws.get h))) else s

/-- A drive sample takes the heads in ascending number, also one that is no press second (log 50, DESIGN CHOICE). -/
def driveSample (c : RunConfig) (raws : Four Raw) (s : State) : State := eachHead (sampleHead c raws) s

/-- The stepping of one head at a press second; `served` says whether it is in the served set (R148, R150, R151). -/
def stepHead (c : RunConfig) (served : List HeadNo) (h : HeadNo) (s : State) : State :=
  let hd := { s.head h with served := decide (h ∈ served) }
  s.setHead h (if frozen c s then hd else hd.stepSecond c hd.served)

/-- A press second: the served set, the steps of every head, then the drive sample of that moment. -/
def pressSecond (c : RunConfig) (raws : Four Raw) (s : State) : State :=
  let served := servedSet c s
  driveSample c raws (eachHead (stepHead c served) s)

/-! ### Unloading and clearing (R155, R156) -/

/-- The UNLOAD button in UNLOAD (R155). -/
def unloadHead (c : RunConfig) (h : HeadNo) (s : State) : State :=
  let s :=
    match (s.head h).load with
    | none => s
    | some l => countUnload l.batchNumber l.flags.any s
  let hd := { s.head h with load := none, occupied := false, stage := 0, target := 0 }
  if hd.pendingOut then
    raise c .headOut (headNumber h) (writeHeadRecord h (s.setHead h { hd with pendingOut := false, state := .out }))
  else assign c (writeHeadRecord h (s.setHead h { hd with state := .free }))

/-- CLEAR HEAD FAULTS naming a fitted head (R156). -/
def clearHead (c : RunConfig) (h : HeadNo) (s : State) : State :=
  let hd := { s.head h with failCount := 0 }
  if hd.state = .out then assign c (writeHeadRecord h (s.setHead h { hd with state := .free }))
  else writeHeadRecord h (s.setHead h { hd with pendingOut := false })

/-! ### The guard and the emergency stop (R157 to R159) -/

/-- The guard opens in guard mode VENT: every head in RAMP or HOLD vents with its load flagged (R158). -/
def ventUnderGuard (c : RunConfig) (s : State) : State :=
  let n := s.press.heads.toList.countP Head.regulated
  let s' := s.setPress { s.press with
    heads := s.press.heads.map fun hd =>
      if hd.regulated then hd.enterVent.flagLoad fun f => { f with guardAbort := true } else hd }
  if n = 0 then s' else raise c .guardAbort n s'

/-- The emergency stop at one head (R159). -/
def Head.estop (hd : Head) : Head :=
  if hd.regulated then hd.enterVent.flagLoad fun f => { f with estop := true }
  else if hd.state = .vent then hd.flagLoad fun f => { f with estop := true }
  else hd

/-- The emergency stop at the lane (R159). -/
def estopHeads (s : State) : State := s.setPress { s.press with heads := s.press.heads.map Head.estop }

end Sys2Proof.Machine
end

