-- ==== Sys2Proof/Machine/Lane.lean ====
section
/-! DEFINITION. The commands of the Load Queue and the Press Heads (chapters 8 and 9). -/

namespace Sys2Proof.Machine

/-! ### Loads made (R135, R136) -/

/-- A LOAD DONE edge in MOULDING makes a load, which joins the tail of the queue (R133, R135). Its waited
time counts from this moment, not from the whole second in its made time (log 60, DESIGN CHOICE). -/
def makeLoad (b : BatchRecord) (s : State) : State :=
  let n := s.queue.counter + 1
  let l : Load :=
    { sequence := n, batchNumber := b.number, slot := b.slot, madeTime := stationSeconds s, waitedMs := 0,
      flags := { late := false, underpressure := false, guardAbort := false, estop := false } }
  let s := s.setQueue { s.queue with counter := n, loads := s.queue.loads ++ [l] }
  saveCheckpoint (changeRecord (fun b => { b with made := b.made + 1 }) s)

/-- An untracked load (R136). -/
def countUntracked (c : RunConfig) (b : BatchRecord) (s : State) : State :=
  let n := satAdd 255 b.untracked 1
  raise c .loadQueueFull n (saveCheckpoint (changeRecord (fun b => { b with untracked := n }) s))

/-- A LOAD DONE edge of the sensitivity set (R135): in MOULDING a load made or untracked, with the checks of R137, R139
and R141; in any other step a stray load. -/
def loadDone (c : RunConfig) (s : State) : State :=
  match openRecord s with
  | some b =>
    if s.seq.step = .moulding then
      let s := s.setQueue { s.queue with filled := min 24 (s.queue.filled + 1) }
      let s :=
        if s.queue.loads.length < 16 ∧ s.queue.counter < 4294967295 then makeLoad b s else countUntracked c b s
      let s := checkMouldingEnd c s
      assign c (s.setQueue s.queue.judgeHold)
    else s.setQueue { s.queue with stray := satAdd 65535 s.queue.stray 1 }
  | none => s.setQueue { s.queue with stray := satAdd 65535 s.queue.stray 1 }

/-! ### Late loads (R140) -/

/-- Whether a queued load has waited its recipe's maximum and is not yet flagged (R140). -/
def Load.lateDue (c : RunConfig) (l : Load) : Bool :=
  !l.flags.late &&
    match (c.recipe l.slot).bind fun r => durationLimit r.maxWait with
    | none => false
    | some m => decide (m ≤ l.waited)

/-- The queued load of a sequence becomes LATE (R140). -/
def lateLoad (c : RunConfig) (sequence : Nat) (s : State) : State :=
  match s.queue.loads.find? fun l => l.sequence = sequence && l.lateDue c with
  | none => s
  | some l =>
    let s := s.setQueue { s.queue with
      loads := s.queue.loads.map fun m =>
        if m.sequence = sequence then { m with flags := { m.flags with late := true } } else m }
    raise c .loadLate l.batchNumber s

/-! ### The commands -/

/-- LOAD_DONE_EDGE (R135, R136). -/
def execLoadDoneEdge (rising : Bool) (s : State) : Host.Outcome State Fault Refusal :=
  let s' := s.setLines { s.lines with loadDone := rising }
  event s (whenRunning s' fun c => if countsEdge c.lines.loadDone rising then closePress c s' (loadDone c s') else s')

/-- LOAD_LATE (R140). -/
def execLoadLate (sequence : Nat) (s : State) : Host.Outcome State Fault Refusal :=
  event s (whenRunning s fun c => lateLoad c sequence s)

/-- DRIVE_SAMPLE (R145). -/
def execDriveSample (raw1 raw2 raw3 raw4 : Raw) (s : State) : Host.Outcome State Fault Refusal :=
  let raws : Four Raw := { h1 := raw1, h2 := raw2, h3 := raw3, h4 := raw4 }
  let s' := s.setLines { s.lines with pressure := raws }
  event s (whenRunning s' fun c => closePress c s' (driveSample c raws s'))

/-- PRESS_SECOND (R144, R148). -/
def execPressSecond (raw1 raw2 raw3 raw4 : Raw) (s : State) : Host.Outcome State Fault Refusal :=
  let raws : Four Raw := { h1 := raw1, h2 := raw2, h3 := raw3, h4 := raw4 }
  let s' := s.setLines { s.lines with pressure := raws }
  event s (whenRunning s' fun c => closePress c s' (pressSecond c raws s'))

/-- The hold timer has reached the stage's hold time in an unfrozen HOLD (R151). -/
def stageHoldOver (c : RunConfig) (h : HeadNo) (s : State) : Bool :=
  let hd := s.head h
  hd.state == .hold && !frozen c s &&
    match hd.stageNow c with
    | none => false
    | some g => decide (duration g.hold ≤ hd.holdTimer)

/-- STAGE_HOLD_END (R151). -/
def execStageHoldEnd (h : HeadNo) (s : State) : Host.Outcome State Fault Refusal :=
  event s (whenRunning s fun c =>
    match (s.head h).recipe c with
    | none => s
    | some r => if stageHoldOver c h s then closePress c s (s.setHead h ((s.head h).endStage r)) else s)

/-- HOLD_UNDERPRESSURE (R152). -/
def execHoldUnderpressure (h : HeadNo) (s : State) : Host.Outcome State Fault Refusal :=
  event s (whenRunning s fun c => checkUnder c h s)

/-- HEAD_PENDING_OUT (R153). -/
def execHeadPendingOut (h : HeadNo) (s : State) : Host.Outcome State Fault Refusal :=
  event s (whenRunning s fun c => s.setHead h ((s.head h).checkFailCount c))

/-- VENT_END (R154). -/
def execVentEnd (h : HeadNo) (s : State) : Host.Outcome State Fault Refusal :=
  event s (whenRunning s fun _ => s.setHead h (s.head h).checkVent)

/-- HEAD_UNLOAD (R155): the button of a head in UNLOAD; in any other state it is ignored. -/
def execHeadUnload (h : HeadNo) (s : State) : Host.Outcome State Fault Refusal :=
  event s (whenRunning s fun c => if (s.head h).state = .unload then closePress c s (unloadHead c h s) else s)

/-- GUARD_OPEN (R157, R158): the line goes open. -/
def execGuardOpen (s : State) : Host.Outcome State Fault Refusal :=
  let s' := s.setLines { s.lines with guardOpen := true }
  event s (whenRunning s' fun c =>
    if s.lines.guardOpen then s'
    else closePress c s (if c.press.guardVents then ventUnderGuard c s' else s'))

/-- GUARD_CLOSE (R157, R158): the line goes closed, and the assignment check is made. -/
def execGuardClose (s : State) : Host.Outcome State Fault Refusal :=
  let s' := s.setLines { s.lines with guardOpen := false }
  event s (whenRunning s' fun c => if s.lines.guardOpen then closePress c s (assign c s') else s')

/-- OUTPUT_PERIOD_END (R146). -/
def execOutputPeriodEnd (h : HeadNo) (s : State) : Host.Outcome State Fault Refusal :=
  event s (whenRunning s fun c => s.setHead h ((s.head h).endPeriod c s.lines.estop h))

/-- HEAD_RECORD_WRITE_DONE (R160). -/
def execHeadRecordWriteDone (h : HeadNo) (s : State) : Host.Outcome State Fault Refusal :=
  event s (s.setStore { s.store with headTable := s.store.headTable.set h (s.store.headTable.get h).finish })

end Sys2Proof.Machine
end

