-- ==== Sys2Proof/Machine/Orders.lean ====
section
/-! DEFINITION. Chapter 4: the orders, the START, HOLD and ESTOP lines, and the opening and stopping of a batch; with
them the ACK order of chapter 10. -/

namespace Sys2Proof.Machine

/-- What an order leaves: the state and the verdict. -/
abbrev Answer := State × Verdict

/-! ### START (R64, R65) -/

/-- The recipe of a slot that holds one (R64). -/
def RunConfig.present (c : RunConfig) (slot : Nat) : Option Recipe :=
  match c.recipe slot with
  | none => none
  | some r => if r.isPresent then some r else none

/-- The conditions of Table 4-2 in their order: the recipe when START is accepted, or the verdict of the first that
fails. -/
def startCheck (c : RunConfig) (slot : Nat) (s : State) : Except Verdict Recipe :=
  if s.start.mode ≠ .ready then .error .refusedListen
  else if s.seq.step ≠ .idle then .error .refusedState
  else if s.lines.estop then .error .refusedState
  else
    match c.present slot with
    | none => .error .refusedSlot
    | some r => if usableHeads s < r.minHeads then .error .refusedHeads else .ok r

/-- The next batch number (R79). -/
def nextBatch (counter : Nat) : Nat := if 65535 ≤ counter then 1 else counter + 1

/-- A record at its opening values (R65, R77). -/
def openingRecord (number slot now : Nat) (firstFault : Option Step) : BatchRecord :=
  { number := number, slot := slot, startTime := now, step := .idle, phase := .none, stepStart := now, filled := 0,
    overrun := 0, flocTime := none, cutTime := 0, cutReason := .predicted, lateness := 0, made := 0, untracked := 0,
    pressed := 0, flagged := 0, outcome := .running, firstFault := firstFault, laneClosed := false }

/-- The batch opens (R65): its number and record, FILLING / FLOW with LINE and ALERT as they stand, the checkpoint, and
FLOW handed to the Fill Unit. ALERT entering records FILLING as the first fault step (R63). -/
def openBatch (c : RunConfig) (slot : Nat) (r : Recipe) (s : State) : State :=
  let n := nextBatch s.seq.counter
  let alert := levelThreePending s
  let record := openingRecord n slot (stationSeconds s) (if alert then some .filling else none)
  let s := s.setSeq { s.seq with
    counter := n, current := .opened record, hold := { HoldSet.clear with line := s.lines.hold, alert := alert } }
  startFill c r (enterStep .filling .flow s)

/-- START (R64, R65). -/
def startOrder (c : RunConfig) (slot : Nat) (s : State) : Answer :=
  match startCheck c slot s with
  | .error v => (s, v)
  | .ok r => (openBatch c slot r s, .accepted)

/-! ### HOLD and RESUME (R67, R68) -/

/-- HOLD (R67). -/
def holdOrder (s : State) : Answer :=
  if s.seq.step.holdable then (addReason .order s, .accepted) else (s, .refusedState)

/-- RESUME (R68). -/
def resumeOrder (c : RunConfig) (s : State) : Answer :=
  if held s then
    (setHold c { HoldSet.clear with line := s.seq.hold.line, alert := s.seq.hold.alert && levelThreePending s } s, .accepted)
  else (s, .refusedState)

/-! ### ABORT and the emergency stop (R69, R72, R80) -/

/-- The vat stops: every vat output safe, the blocks end their parts, the record takes the outcome and its first fault
step, STOPPED is entered and the record closed (R69, R72, R80). -/
def stopVat (outcome : BatchOutcome) (s : State) : State :=
  let s := withdrawJobs (fun _ => true) (stopMonitor (stopFill s))
  let s := s.setSeq { s.seq with outlet := false, fillerRequest := false }
  let s := noteFirstFault (changeRecord (fun b => { b with outcome := outcome }) s)
  closeOnVat (enterStep .stopped .none s)

/-- ABORT (R69). -/
def abortOrder (s : State) : Answer :=
  if s.seq.step.holdable then (stopVat .aborted s, .accepted) else (s, .refusedState)

/-! ### CUT NOW, CLEAR and ACK (R70, R71, R116, R167) -/

/-- CUT NOW in SETTING: the mix job is withdrawn, the cut is at the present set-clock time with reason ORDERED, and
falls due at once (R116). -/
def cutNow (c : RunConfig) (r : Recipe) (s : State) : State :=
  let s := withdrawJobs JobKind.ofMonitor (s.setCoag { s.coag with
    cutAt := some s.coag.now, reason := .ordered, mixJob := false, readings := [] })
  cutFallsDue c r s.coag.now s

/-- CUT NOW (R70). -/
def cutNowOrder (c : RunConfig) (s : State) : Answer :=
  if s.seq.step = .setting then (withRecipe c s fun r => cutNow c r s, .accepted) else (s, .refusedState)

/-- CLEAR (R71). -/
def clearOrder (s : State) : Answer :=
  if s.seq.step = .stopped ∧ s.lines.estop = false then
    (enterStep .idle .none (s.setSeq { s.seq with current := .none }), .accepted)
  else (s, .refusedState)

/-- ACK (R167). -/
def ackOrder (n : Nat) (s : State) : Answer :=
  if ackFinds n s then (acknowledge n s, .accepted) else (s, .refusedState)

/-! ### Taking an order (R17, R18) -/

/-- Modes in which the line is served and orders are routed (R1, R17). -/
def Mode.served : Mode → Bool
  | .starting => false
  | .listen => true
  | .ready => true
  | .mute => true
  | .setupOnly => false

/-- An addressed order is answered with its verdict (R17); a room-wide one is not (R18). -/
def answered (all : Bool) (sender code tag : Byte) (a : Answer) : State :=
  if all then a.1 else reply a.1 sender code tag a.2

/-- An order's effect, where the line is served. -/
def takeOrder (s : State) (all : Bool) (sender code tag : Byte) (f : RunConfig → Answer) : State :=
  whenRunning s fun c => if s.start.mode.served then answered all sender code tag (f c) else s

/-- A valid ORDER's body: its code, argument and tag (13.2). -/
def routeOrder (s : State) (all : Bool) (sender code arg tag : Byte) : State :=
  let take := takeOrder s all sender code tag
  match code.toNat with
  | 1 => if all then s else take fun c => startOrder c arg.toNat s
  | 2 => take fun _ => holdOrder s
  | 3 => take fun c => resumeOrder c s
  | 4 => if all then s else take fun _ => abortOrder s
  | 5 => if all then s else take fun c => cutNowOrder c s
  | 6 => if all then s else take fun _ => clearOrder s
  | 7 => if all then s else take fun _ => ackOrder arg.toNat s
  | _ => if all then s else take fun _ => (s, .refusedUnknown)

/-! ### The emergency stop line (R72) -/

/-- The ESTOP line goes active (R72, R159): the heads vent, ESTOP is raised, and in a holdable step the vat stops;
the record carries the step before STOPPED (log 58, DESIGN CHOICE). -/
def estopRises (c : RunConfig) (s : State) : State :=
  let s := raise c .estop 0 (estopHeads s)
  if s.seq.step.holdable then stopVat .estop s else s

/-- A START edge with a local slot: refused ones are counted (R66). -/
def startEdge (c : RunConfig) (s : State) : State :=
  match startCheck c c.localSlot s with
  | .ok r => openBatch c c.localSlot r s
  | .error _ => s.setSeq { s.seq with refusedStarts := satAdd 65535 s.seq.refusedStarts 1 }

/-! ### The commands -/

/-- ORDER_START (R64, R65). -/
def execOrderStart (sender arg tag : Byte) (s : State) : Host.Outcome State Fault Refusal :=
  event s (takeOrder s false sender 1 tag fun c => startOrder c arg.toNat s)

/-- ORDER_HOLD (R67). -/
def execOrderHold (all : Bool) (sender _arg tag : Byte) (s : State) : Host.Outcome State Fault Refusal :=
  event s (takeOrder s all sender 2 tag fun _ => holdOrder s)

/-- ORDER_RESUME (R68). -/
def execOrderResume (all : Bool) (sender _arg tag : Byte) (s : State) : Host.Outcome State Fault Refusal :=
  event s (takeOrder s all sender 3 tag fun c => resumeOrder c s)

/-- ORDER_ABORT (R69). -/
def execOrderAbort (sender _arg tag : Byte) (s : State) : Host.Outcome State Fault Refusal :=
  event s (takeOrder s false sender 4 tag fun _ => abortOrder s)

/-- ORDER_CUT_NOW (R70). -/
def execOrderCutNow (sender _arg tag : Byte) (s : State) : Host.Outcome State Fault Refusal :=
  event s (takeOrder s false sender 5 tag fun c => cutNowOrder c s)

/-- ORDER_CLEAR (R71). -/
def execOrderClear (sender _arg tag : Byte) (s : State) : Host.Outcome State Fault Refusal :=
  event s (takeOrder s false sender 6 tag fun _ => clearOrder s)

/-- ORDER_ACK (R167). -/
def execOrderAck (sender arg tag : Byte) (s : State) : Host.Outcome State Fault Refusal :=
  event s (takeOrder s false sender 7 tag fun _ => ackOrder arg.toNat s)

/-- Whether an order code is one of the seven known (13.2). -/
def orderKnown (code : Byte) : Bool := decide (1 ≤ code.toNat) && decide (code.toNat ≤ 7)

/-- ORDER_UNKNOWN (R17, R18): an addressed order of an unknown code is refused; a room-wide one is ignored, and so is
one whose code only an addressed order has. -/
def execOrderUnknown (all : Bool) (sender code _arg tag : Byte) (s : State) : Host.Outcome State Fault Refusal :=
  event s (if all ∨ orderKnown code = true then s else takeOrder s false sender code tag fun _ => (s, .refusedUnknown))

/-- HOLD_LINE_ACTIVE (R62). -/
def execHoldLineActive (s : State) : Host.Outcome State Fault Refusal :=
  let s' := s.setLines { s.lines with hold := true }
  event s (whenRunning s' fun _ => if s.lines.hold then s' else addReason .line s')

/-- HOLD_LINE_INACTIVE (R62). -/
def execHoldLineInactive (s : State) : Host.Outcome State Fault Refusal :=
  let s' := s.setLines { s.lines with hold := false }
  event s (whenRunning s' fun c => setHold c { s.seq.hold with line := false } s')

/-- START_LINE_EDGE (R66). -/
def execStartLineEdge (rising : Bool) (s : State) : Host.Outcome State Fault Refusal :=
  let s' := s.setLines { s.lines with start := rising }
  event s (whenRunning s' fun c => if c.localSlot ≠ 0 ∧ countsEdge c.lines.start rising = true then startEdge c s' else s')

/-- ESTOP_LINE_ACTIVE (R72). -/
def execEstopLineActive (s : State) : Host.Outcome State Fault Refusal :=
  let s' := s.setLines { s.lines with estop := true }
  event s (whenRunning s' fun c => if s.lines.estop then s' else closePress c s (estopRises c s'))

/-- ESTOP_LINE_INACTIVE (R72, R159). -/
def execEstopLineInactive (s : State) : Host.Outcome State Fault Refusal :=
  let s' := s.setLines { s.lines with estop := false }
  event s (whenRunning s' fun c => if s.lines.estop then closePress c s (assign c s') else s')

end Sys2Proof.Machine
end

