-- ==== Sys2Proof/Machine/Peers.lean ====
section
/-! DEFINITION. Chapter 2: tracking, creating, replacing, ageing and removing peer records, and the reckoning triggers they
send. -/

namespace Sys2Proof.Machine

/-! ### Contributions and triggers (R28) -/

/-- A record's contribution to a pool: its claim and band while LIVE, else an absent claim and NORMAL. -/
def contribution (p : Pool) (r : Option PeerRecord) : Option Claim × Band :=
  match r with
  | none => (none, .normal)
  | some r => if r.live then (r.reported.claim p, r.reported.band p) else (none, .normal)

/-- The record of a station number. -/
def findPeer (n : Nat) (rs : List PeerRecord) : Option PeerRecord := rs.find? fun r => r.number = n

/-- Reckon a pool if the record's contribution to it changed. -/
def triggerPool (c : RunConfig) (p : Pool) (before after : Option PeerRecord) (s : State) : State :=
  if contribution p before = contribution p after then s else reckon c p s

/-- The table changes in the record of one number, and each pool whose contribution changed is reckoned on the table
that includes the change. -/
def changePeers (c : RunConfig) (n : Nat) (t : PeerTable) (s : State) : State :=
  let before := findPeer n s.peers.records
  let after := findPeer n t.records
  triggerPool c .air before after (triggerPool c .milk before after (s.setPeers t))

/-! ### Taking frames in (R21 to R24) -/

/-- Sequence tracking (R24). -/
def PeerRecord.track (seq : Nat) (r : PeerRecord) : PeerRecord :=
  { r with missed := satAdd 255 r.missed ((seq + 255 - r.lastSeq) % 256), lastSeq := seq }

/-- A STATUS replaces the reported fields (R23). -/
def PeerRecord.replace (x : Reported) (r : PeerRecord) : PeerRecord := { r with reported := x, ageMs := 0, live := true }

/-- A new record (R22). -/
def newPeer (n seq : Nat) (x : Reported) : PeerRecord :=
  { number := n, live := true, lastSeq := seq, missed := 0, ageMs := 0, reported := x }

/-- Insert a record in station-number order (R19). -/
def insertPeer (r : PeerRecord) : List PeerRecord → List PeerRecord
  | [] => [r]
  | x :: xs => if r.number < x.number then r :: x :: xs else x :: insertPeer r xs

/-- Apply to the record of one number. -/
def updatePeer (n : Nat) (f : PeerRecord → PeerRecord) (rs : List PeerRecord) : List PeerRecord :=
  rs.map fun r => if r.number = n then f r else r

/-- The table after a valid frame from another node (Table 2-2). -/
def PeerTable.take (f : RxFrame) (t : PeerTable) : PeerTable :=
  let tracked := { t with records := updatePeer f.sender (PeerRecord.track f.seq) t.records }
  if f.kind = 1 ∧ f.dest = 0 then
    match parseStatus f.body with
    | none => { tracked with malformed := satAdd 65535 t.malformed 1 }
    | some x =>
      match findPeer f.sender t.records with
      | none => { t with records := insertPeer (newPeer f.sender f.seq x) t.records }
      | some _ => { tracked with records := updatePeer f.sender (PeerRecord.replace x) tracked.records }
  else tracked

/-- The table takes a valid frame whole (R24, R28). -/
def takeFrame (c : RunConfig) (f : RxFrame) (s : State) : State := changePeers c f.sender (s.peers.take f) s

/-! ### Ageing (R25 to R27) -/

/-- The record becomes SILENT and loses its claims (R26). -/
def PeerRecord.silence (r : PeerRecord) : PeerRecord :=
  { r with live := false, reported := { r.reported with milkClaim := none, airClaim := none } }

/-- The heard age of a LIVE record has reached the peer timeout (R26). -/
def timeoutDue (c : RunConfig) (r : PeerRecord) : Bool := r.live && decide (c.peerTimeout * 1000 ≤ r.ageMs)

def timeOutPeer (c : RunConfig) (n : Nat) (s : State) : State :=
  changePeers c n
    { s.peers with
      records := updatePeer n (fun r => if timeoutDue c r then r.silence else r) s.peers.records } s

/-- The heard age has reached 60 s (R27). -/
def removalDue (r : PeerRecord) : Bool := decide (60000 ≤ r.ageMs)

def removePeer (c : RunConfig) (n : Nat) (s : State) : State :=
  changePeers c n
    { s.peers with records := s.peers.records.filter fun r => !(r.number == n && removalDue r) } s

/-! ### The commands -/

/-- PEER_TIMEOUT (R26). -/
def execPeerTimeout (n : Nat) (s : State) : Host.Outcome State Fault Refusal :=
  event s (whenRunning s fun c => timeOutPeer c n s)

/-- PEER_RECORD_REMOVAL (R27). -/
def execPeerRecordRemoval (n : Nat) (s : State) : Host.Outcome State Fault Refusal :=
  event s (whenRunning s fun c => removePeer c n s)

end Sys2Proof.Machine
end

