-- ==== Sys2Proof/Machine/Link.lean ====
section
/-! DEFINITION. Chapter 1: judged runs, counted errors, number clash, and the transmission of the frame in flight. -/

namespace Sys2Proof.Machine

/-! ### Counted errors (R15) -/

/-- The tally has reached 32: LINK_ERRORS is raised with the last error kind and the tally restarts (R15). -/
def checkTally (c : RunConfig) (s : State) : State :=
  if 32 ≤ s.link.tally then
    match s.link.lastError with
    | none => s
    | some e => raise c .linkErrors e.code (s.setLink { s.link with tally := 0 })
  else s

/-- Count a receive error: its counter, and the tally whether or not the counter has stopped (R15). -/
def countError (c : RunConfig) (e : LinkError) (s : State) : State :=
  let l := { s.link with tally := s.link.tally + 1, lastError := some e }
  checkTally c (s.setLink (match e with
    | .crc => { l with crcErrors := satAdd 65535 l.crcErrors 1 }
    | .framing => { l with framingErrors := satAdd 65535 l.framingErrors 1 }))

/-! ### Receiving (R12 to R18) -/

/-- An attempt is under way: its read-back forms no run (R8, R12). -/
def LinkState.sending (l : LinkState) : Bool :=
  match l.flight with
  | none => false
  | some f => f.sending

/-- Runs are taken from the line: it is served and no own attempt is under way (R1, R12). -/
def receiving (s : State) : Bool := s.start.mode.served && !s.link.sending

/-- A number clash (R16): MUTE, the queue and the frame in flight lost, NUMBER_CLASH raised with the frame's kind, both
pools reckoned. -/
def clash (c : RunConfig) (kind : Nat) (s : State) : State :=
  let s := s.setStart { s.start with mode := .mute, listenMs := 0 }
  let s := s.setLink { s.link with queue := [], flight := none }
  reckonBoth c (raise c .numberClash kind s)

/-- An ORDER addressed to the station, or room-wide, is routed (R14, R17, R18). -/
def routeFrame (c : RunConfig) (f : RxFrame) (s : State) : State :=
  match f.kind, f.body with
  | 2, [code, arg, tag] =>
    if f.dest = c.stationNumber then routeOrder s false (byte f.sender) code arg tag
    else if f.dest = 0 then routeOrder s true (byte f.sender) code arg tag
    else s
  | _, _ => s

/-- A valid frame (R13, R14, R16). -/
def takeValid (c : RunConfig) (f : RxFrame) (s : State) : State :=
  let s := s.setLink { s.link with framesGood := satAdd 65535 s.link.framesGood 1 }
  if f.sender = c.stationNumber then
    if s.start.mode = .listen ∨ s.start.mode = .ready then clash c f.kind s else s
  else routeFrame c f (takeFrame c f s)

/-- A run begins with a character that follows more than the run gap of 0.3 ms of idle line (R1, R12). -/
def beginsRun (idleMicros : Nat) : Bool := decide (300 < idleMicros)

/-- The receive state as a run leaves it. -/
def leaveRun (r : Receive) (s : State) : State := s.setLink { s.link with receive := r }

/-- A run at its expected end (R12, R13): it is judged, and the characters that follow it form a trailing run. -/
def judge (c : RunConfig) (run : List Byte) (s : State) : State :=
  match judgeRun run with
  | .broken => s
  | .badCrc => countError c .crc (leaveRun .judged s)
  | .badFraming => countError c .framing (leaveRun .judged s)
  | .valid f => takeValid c f (leaveRun .judged s)

/-- Whether characters break the receive checks (R12): those of a run that begins after the run gap, and those of a
trailing run, which follow a judged frame without it. -/
def LinkState.breaks (cause : RunBreak) (l : LinkState) : Bool :=
  match cause.fault with
  | .trailingRun => l.receive == .judged && !beginsRun cause.idleMicros
  | .noSync => beginsRun cause.idleMicros
  | .longLength => beginsRun cause.idleMicros
  | .gap => beginsRun cause.idleMicros
  | .noStopBit => beginsRun cause.idleMicros

/-! ### Transmission (R7 to R10) -/

/-- Transmission is open: past the opening second in LISTEN, or in READY (R2, R8). -/
def mayTransmit (s : State) : Bool :=
  match s.start.mode with
  | .listen => !s.link.opening
  | .ready => true
  | .starting => false
  | .mute => false
  | .setupOnly => false

/-- The first attempt of the head frame (R5, R7, R8): it leaves the queue and takes its sequence value. What is read
back forms no run (R12). -/
def LinkState.startAttempt (l : LinkState) : LinkState :=
  match l.queue, l.flight with
  | f :: rest, none =>
    { l with
      queue := rest, nextSeq := (l.nextSeq + 1) % 256, receive := .ignoring,
      flight := some { frame := f, seq := l.nextSeq, attempts := 0, sending := true } }
  | _, _ => l

/-- Drop the frame in flight at eight attempts (R9). -/
def LinkState.checkDrop (l : LinkState) : LinkState :=
  match l.flight with
  | none => l
  | some f => if 8 ≤ f.attempts then { l with txDropped := satAdd 65535 l.txDropped 1, flight := none } else l

/-- A collision (R9): the line released, COLLISIONS and the attempt count advanced, the frame dropped at eight. The
characters that follow form no run until the line has been idle for the run gap (R12). -/
def LinkState.collide (l : LinkState) : LinkState :=
  match l.flight with
  | none => l
  | some f =>
    if f.sending then
      ({ l with
        collisions := satAdd 65535 l.collisions 1, receive := .ignoring,
        flight := some { f with attempts := f.attempts + 1, sending := false } }).checkDrop
    else l

/-- The backoff slots after n attempts (R10). -/
def backoffSlots (number n : Nat) : Nat := ((number - 1) + 7 * n) % 32 + 1

/-- The idle time a frame that collided waits for, in microseconds (R10). -/
def backoffMicros (number n : Nat) : Nat := 1000 + 500 * backoffSlots number n

/-- The wait of R10 runs out and the next attempt begins. -/
def LinkState.retry (number idleMicros : Nat) (l : LinkState) : LinkState :=
  match l.flight with
  | none => l
  | some f =>
    if f.sending = false ∧ backoffMicros number f.attempts ≤ idleMicros then
      { l with receive := .ignoring, flight := some { f with sending := true } }
    else l

/-- The frame in flight is sent (R7, R9). -/
def LinkState.complete (l : LinkState) : LinkState :=
  match l.flight with
  | none => l
  | some f => if f.sending then { l with flight := none } else l

/-! ### The commands -/

/-- RUN_JUDGED (R12, R13): a run that reached its expected end. -/
def execRunJudged (run : Run) (s : State) : Host.Outcome State Fault Refusal :=
  event s (whenRunning s fun c => if receiving s && beginsRun run.idleMicros then judge c run.chars s else s)

/-- RUN_FRAMING_ERROR (R12): each broken run is counted once and ignored until the line is next idle for the run gap. -/
def execRunFramingError (cause : RunBreak) (s : State) : Host.Outcome State Fault Refusal :=
  event s (whenRunning s fun c =>
    if receiving s && s.link.breaks cause then countError c .framing (leaveRun .ignoring s) else s)

/-- LINK_ERROR_TALLY_FULL (R15). -/
def execLinkErrorTallyFull (s : State) : Host.Outcome State Fault Refusal :=
  event s (whenRunning s fun c => checkTally c s)

/-- TRANSMISSION_ATTEMPT_START (R8): the line has been idle for `idleMicros` (log 31, DESIGN CHOICE). -/
def execTransmissionAttemptStart (idleMicros : Nat) (s : State) : Host.Outcome State Fault Refusal :=
  event s (if mayTransmit s ∧ 1000 ≤ idleMicros then s.setLink s.link.startAttempt else s)

/-- COLLISION (R9). -/
def execCollision (s : State) : Host.Outcome State Fault Refusal := event s (s.setLink s.link.collide)

/-- TX_DROPPED (R9). -/
def execTxDropped (s : State) : Host.Outcome State Fault Refusal := event s (s.setLink s.link.checkDrop)

/-- BACKOFF_EXPIRY (R10): the line has been idle for `idleMicros`. -/
def execBackoffExpiry (idleMicros : Nat) (s : State) : Host.Outcome State Fault Refusal :=
  event s (whenRunning s fun c => s.setLink (s.link.retry c.stationNumber idleMicros))

/-- FRAME_SENT (R7). -/
def execFrameSent (s : State) : Host.Outcome State Fault Refusal := event s (s.setLink s.link.complete)

end Sys2Proof.Machine
end

