-- ==== Sys2Proof/Machine/Readout.lean ====
section
/-! DEFINITION. The response bodies of the setup port's readouts, field by field in the order of their rules (R184). A part
that is not loaded reads at its reset values, which the state then holds. -/

namespace Sys2Proof.Machine

/-- Bytes preceded by a presence byte (R184). -/
def optional {α : Type} (f : α → List Byte) : Option α → List Byte
  | none => flag false
  | some x => flag true ++ f x

/-- A list preceded by its count byte (R184). -/
def counted {α : Type} (f : α → List Byte) (xs : List α) : List Byte := byte xs.length :: xs.flatMap f

/-! ### Link and peers -/

/-- The attempt count of the frame in flight, 0 when there is none (R7). -/
def LinkState.attempts (l : LinkState) : Nat :=
  match l.flight with
  | none => 0
  | some f => f.attempts

/-- READ LINK (R15). -/
def linkBody (l : LinkState) : List Byte :=
  be16 l.framesGood ++ be16 l.crcErrors ++ be16 l.framingErrors ++ be16 l.collisions ++ be16 l.txDropped
    ++ be16 l.queueOverrun ++ [byte l.tally, byte l.queue.length] ++ flag l.flight.isSome
    ++ [byte l.attempts, byte l.nextSeq]

/-- A peer record (Table 2-1); the heard age is in whole seconds. -/
def PeerRecord.bytes (r : PeerRecord) : List Byte :=
  [byte r.number, byte r.reported.role.code, byte (if r.live then 0 else 1), byte r.lastSeq, byte r.missed,
   byte (r.ageMs / 1000), byte (if r.reported.ready then 2 else 1)]
    ++ be16 r.reported.batchNumber ++ [byte r.reported.step.code] ++ flag r.reported.held
    ++ [byte r.reported.milkBand.code, byte r.reported.airBand.code, byte r.reported.usableHeads]
    ++ beOpt8 r.reported.highest ++ optional Claim.bytes r.reported.milkClaim ++ optional Claim.bytes r.reported.airClaim

/-- READ PEERS (R31): the count, the malformed count, the records, the peer timeout (absent where none is loaded: log
13, DEDUCED). -/
def peersBody (s : State) : List Byte :=
  byte s.peers.records.length :: be16 s.peers.malformed ++ s.peers.records.flatMap PeerRecord.bytes
    ++ beOpt8 (s.config.map RunConfig.peerTimeout)

/-! ### Pools and batches -/

/-- The own claim as R57 lists it. -/
def OwnClaim.bytes (c : OwnClaim) : List Byte := [byte c.level] ++ be16 c.request ++ be16 c.floor ++ [byte c.waited]

/-- The last sample: its pressure, or FFFF hex for a sensor sample (13.5). -/
def Sample.bytes : Sample → List Byte
  | .kpa p => be16 p
  | .sensor => be16 0xFFFF

/-- One pool of READ POOLS (R57). -/
def poolBody (capacity : Nat) (p : PoolState) : List Byte :=
  be16 capacity ++ [byte p.band.code] ++ flag p.degraded ++ p.lastSample.bytes ++ optional OwnClaim.bytes p.own
    ++ optional Claim.bytes p.carried ++ be16 p.grant ++ [byte p.last.derate] ++ be16 p.last.effective
    ++ [byte p.last.rank, byte p.last.candidates] ++ be16 p.last.remainder

/-- The capacity of a pool, 0 when no running configuration is loaded (R57). -/
def capacityOf (s : State) (p : Pool) : Nat :=
  match s.config with
  | none => 0
  | some c => (c.pool p).capacity

/-- READ POOLS (R57). -/
def poolsBody (s : State) : List Byte := poolBody (capacityOf s .milk) s.milk ++ poolBody (capacityOf s .air) s.air

/-- The current batch's record: the open one, or after closing its history record (R80). -/
def currentRecord (s : State) : Option BatchRecord :=
  match s.seq.current with
  | .none => none
  | .opened r => some r
  | .closed n => historyRecord n s

/-- The history as a running station holds it; it is not read in SETUP_ONLY (R84). -/
def historyRead (s : State) : List BatchRecord :=
  match s.config with
  | none => []
  | some _ => s.store.history.map Slot.latest

/-- READ BATCHES (R84). -/
def batchesBody (s : State) : List Byte :=
  [byte s.seq.step.code, byte s.seq.phase.code, byte s.seq.hold.code] ++ optional BatchRecord.bytes (currentRecord s)
    ++ counted BatchRecord.bytes (historyRead s) ++ be16 s.seq.counter ++ be16 s.seq.refusedStarts

/-! ### Fill, firmness and knives -/

/-- READ FILL (R100). -/
def fillBody (f : FillState) : List Byte :=
  be32 f.totaliser ++ flag f.spanOpen ++ be16 f.stray ++ be32 f.qMeas ++ be16 f.grant ++ be16 f.qCmd ++ be16 f.duty
    ++ be16 f.flowElapsed ++ flag f.slowRaised ++ [byte f.noPulse, byte f.settle] ++ be16 f.dosed ++ flag f.dosePump
    ++ flag f.stirJob

/-- The recipe of the current batch (R120). -/
def currentRecipe (s : State) : Option Recipe :=
  match s.config, currentRecord s with
  | some c, some r => c.recipe r.slot
  | _, _ => none

/-- The recipe figures of READ FIRMNESS, zeros without a batch (R120). -/
def firmnessFigures : Option Recipe → List Byte
  | none => [byte 0, byte 0] ++ be16 0 ++ be16 0 ++ be16 0 ++ be16 0
  | some r =>
    [byte r.period, byte r.multiplier] ++ be16 r.minSlope ++ be16 (duration r.tMin) ++ be16 (duration r.tFallback)
      ++ be16 (duration r.tMax)

/-- READ FIRMNESS (R120). -/
def firmnessBody (s : State) : List Byte :=
  let m := s.coag
  [byte m.state.code] ++ be16 m.clock ++ be16 m.mixTimer ++ be16 m.quietStart ++ be16 m.index ++ counted be16 m.window
    ++ be16 m.lastMean ++ be16 m.lastRaw ++ [byte m.railRun] ++ beOptInt16 m.slope ++ be16 m.peak ++ be16 m.peakIndex
    ++ beOpt16 m.flocTime ++ beOpt16 m.detectTime ++ beOpt16 m.cutAt ++ [byte m.reason.code]
    ++ firmnessFigures (currentRecipe s)

/-- The job in force with its owner, direction and speed; with no job the direction is unstated (R131; log 14, DESIGN
CHOICE) and the speed absent (R184). -/
def jobBytes : Option Job → List Byte
  | none => [byte 0, byte 0, Config.noJobDirection] ++ beOpt16 none
  | some j => [byte j.kind.code, byte j.kind.owner, byte j.kind.direction.code] ++ be16 j.speed

/-- READ KNIFE (R131). -/
def knifeBody (s : State) : List Byte :=
  let k := s.knife
  [byte k.state.code] ++ jobBytes k.job ++ flag k.continuing ++ flag k.run ++ [byte k.reverse.code] ++ be16 k.speed
    ++ flag s.lines.driveFault ++ [byte (min 255 (k.offMs / 1000)), byte (k.graceMs / 1000), byte (k.stallMs / 100)]
    ++ be16 k.cutElapsed ++ be16 k.rampElapsed ++ be16 k.stirElapsed ++ be16 k.turns

/-! ### Queue and heads -/

/-- READ QUEUE (R143). -/
def queueBody (s : State) : List Byte :=
  counted Load.bytes s.queue.loads ++ be32 s.queue.counter ++ [byte s.queue.filled] ++ flag s.queue.queueHold
    ++ flag (fillerHold s) ++ flag s.seq.fillerRequest ++ flag s.seq.outlet ++ flag s.lines.loadDone
    ++ flag s.lines.vatEmpty ++ be16 s.queue.stray

/-- Whether a head is in the rising set now (R149). -/
def inRisingSet (s : State) (h : HeadNo) : Bool :=
  match s.config with
  | none => false
  | some c => decide (h ∈ risingSet c s)

/-- Whether a head is frozen now (R157). -/
def isFrozen (s : State) (h : HeadNo) : Bool :=
  match s.config with
  | none => false
  | some c => frozen c s && (s.head h).regulated

/-- The level of a head's line; a released line has none, so it is absent (R146, R184; log 15, DEDUCED). -/
def lineBytes (hd : Head) : List Byte :=
  if hd.output = .released then beOpt16 none else be16 hd.line

/-- One head of READ HEADS (R162); the 200 ms timers are read in whole seconds (log 20, DEDUCED), and the fail count and
occupied mark as the head last gave them to a write, ended or not (log 54, DESIGN CHOICE), and 0 and clear in SETUP_ONLY
(log 56, DESIGN CHOICE). The output stage is the one in effect (log 57, DESIGN CHOICE), and the stage
index stands through VENT and UNLOAD (log 61, DEDUCED). -/
def headBody (s : State) (h : HeadNo) : List Byte :=
  let hd := s.head h
  flag hd.fitted ++ [byte hd.state.code] ++ optional Load.bytes hd.load ++ [byte hd.stage] ++ be16 hd.target
    ++ be16 hd.pressure ++ [byte hd.accumulator] ++ flag (inRisingSet s h) ++ flag hd.served ++ flag (isFrozen s h)
    ++ be16 hd.holdTimer ++ [byte (hd.faultSteps / 5), byte (hd.ventSteps / 5)] ++ flag hd.under ++ be16 hd.duty
    ++ [byte hd.output.code] ++ lineBytes hd ++ flag hd.pendingOut ++ [byte hd.failCount] ++ flag hd.occupied
    ++ flag hd.badAtStart

/-- READ HEADS (R162). -/
def headsBody (s : State) : List Byte :=
  headNos.flatMap (headBody s) ++ [byte (usableHeads s)] ++ be16 s.press.airGrant ++ flag s.lines.guardOpen

/-! ### Alerts, causes, settings and identity -/

/-- A pending record as R164 lists its fields. -/
def AlertRecord.bytes (a : AlertRecord) : List Byte :=
  [byte a.kind.number, byte a.level] ++ be16 a.batchNumber ++ [byte a.step.code] ++ be16 a.detail ++ be32 a.firstRaised
    ++ [byte a.repeats]

/-- A section's record in the store (R175). -/
def sectionSlot (n : Nat) (s : State) : Slot (List Byte) := s.store.sections.getD (n - 1) (Slot.settled [])

/-- The level of a kind as the store holds it (R170; log 19, DEDUCED). -/
def storedLevel (k : AlertKind) (s : State) : Byte := (sectionSlot 7 s).stored.getD (k.number - 1) 0#8

/-- The level in force, the minimum when no running configuration is loaded (R163, R170). -/
def levelRead (k : AlertKind) (s : State) : Nat :=
  match s.config with
  | none => k.minLevel
  | some c => levelInForce c k

/-- The level that the beacon shows. -/
def Beacon.level : Beacon → Option Nat
  | .off => none
  | .slow => some 2
  | .fast => some 3

/-- The beacon kind: the first pending kind at the beacon's level, 0 for none (R166). -/
def beaconKind (a : AlertState) : Nat :=
  match a.beacon.level with
  | none => 0
  | some l =>
    match a.pending.find? fun r => r.level = l with
    | none => 0
    | some r => r.kind.number

/-- READ ALERTS (R170). -/
def alertsBody (s : State) : List Byte :=
  (AlertKind.all.flatMap fun k => [byte k.minLevel, storedLevel k s, byte (levelRead k s)])
    ++ counted AlertRecord.bytes s.alerts.pending ++ beOpt8 (highestLevel s)
    ++ [byte s.alerts.beacon.code, byte (beaconKind s.alerts)]

/-- The cause flags with none set. -/
def CauseFlags.clear : CauseFlags := { powerOn := false, supplyDrop := false, resetLine := false, restart := false }

/-- The stored cause flags; a bad record is read as all clear (R180; log 33, DEDUCED), and a good one whose write is in
flight as it stood before that write (log 62, DESIGN CHOICE). -/
def storedCauses (s : State) : CauseFlags := if s.store.causes.good then s.store.causes.stored else CauseFlags.clear

/-- READ CAUSES (R179). -/
def causesBody (s : State) : List Byte := [byte (storedCauses s).code, byte s.start.flags.code]

/-- The stored-differs flag (R174). -/
def storedDiffers (s : State) : Bool :=
  match s.config with
  | none => true
  | some c => sectionNos.any fun n => !(sectionSlot n s).good || (sectionSlot n s).stored != configContents c n

/-- The station number IDENTIFY returns (R174). -/
def identityNumber (s : State) : Byte :=
  match s.config with
  | some c => byte c.stationNumber
  | none => if (sectionSlot 1 s).good then (sectionSlot 1 s).stored.getD 0 0#8 else 0#8

/-- The fitted heads IDENTIFY returns (R174). -/
def identityFitted (s : State) : Nat :=
  match s.config with
  | some c => c.press.fitted
  | none => 0

/-- IDENTIFY (R174, 13.3; part code and revision: log 12, DESIGN CHOICE). -/
def identifyBody (s : State) : List Byte :=
  be16 Config.partCode.toNat ++ [Config.revision, byte s.start.mode.code, identityNumber s, byte (identityFitted s)]
    ++ flag (storedDiffers s) ++ be16 s.port.discard ++ be16 s.port.abandoned

/-- CHECK SETTINGS (R176): good or bad for each section, in order (log 20, DEDUCED). -/
def checkBody (s : State) : List Byte := sectionNos.flatMap fun n => flag (sectionSlot n s).good

end Sys2Proof.Machine
end

