-- ==== Sys2Proof/Machine/StartUp.lean ====
section
/-! DEFINITION. Chapter 12: the reset, the cause flags, the start sequence with the recovery of batches (R83), and the
listen timer. -/

namespace Sys2Proof.Machine

/-! ### The reset (R180) -/

/-- The contents of a section whose write was cut short (R175; log 11, DESIGN CHOICE). -/
def tornBytes (free len : Nat) : List Byte := (List.range len).map fun i => Config.tornByte free i

/-- A section at a reset: a write in flight leaves it bad, with contents the manual does not give. -/
def tearSection (free : Nat) (x : Slot (List Byte)) : Slot (List Byte) :=
  match x.inFlight with
  | none => x.tear
  | some new => { x.tear with stored := tornBytes free new.length }

/-- The store at a reset: every record whose write is in flight is left bad. -/
def Store.tear (free : Nat) (t : Store) : Store :=
  { sections := t.sections.map (tearSection free), headTable := t.headTable.map Slot.tear,
    history := t.history.map Slot.tear, checkpoint := t.checkpoint.tear, causes := t.causes.tear }

/-- A reset (R180): the volatile state of every block at its reset values. Causes that a start has not yet taken up
wait together, each to update the flags in turn; a section torn takes a free value. -/
def resetStation (cause : Cause) (s : State) : State :=
  let causes := if s.start.mode = .starting then s.start.causes ++ [cause] else [cause]
  State.afterReset s.pending { s.lines with reset := s.lines.reset || cause = .resetLine } causes (s.store.tear s.free)
    (s.free + 1)

/-! ### The cause flags (R180) -/

/-- The update of the flags for a cause. -/
def CauseFlags.update (f : CauseFlags) : Cause → CauseFlags
  | .powerOn => { powerOn := true, supplyDrop := false, resetLine := false, restart := false }
  | .supplyDrop => { f with supplyDrop := true, resetLine := false, restart := false }
  | .resetLine => { f with resetLine := true }
  | .restart => { f with restart := true }

/-- The start updates the stored flags for the causes that wait, takes them as its running copy and writes the record.
-/
def updateCauses (s : State) : State :=
  let flags := s.start.causes.foldl CauseFlags.update (storedCauses s)
  let s := s.setStart { s.start with causes := [], flags := flags }
  s.setStore { s.store with causes := s.store.causes.write flags }

/-! ### The head table (R161, R182 step 1) -/

/-- A fitted head's state from its record. -/
def headFromRecord (c : RunConfig) (x : Slot HeadRecord) : Head :=
  let failed := decide (c.press.failLimit ≤ x.stored.failCount)
  if !x.good then { Head.init with state := .out, badAtStart := true }
  else if x.stored.occupied then
    { Head.init with state := .unload, failCount := x.stored.failCount, occupied := true, pendingOut := failed }
  else { Head.init with state := if failed then .out else .free, failCount := x.stored.failCount }

/-- An unfitted head takes no state; its record is read and kept as it stands (R160), a bad one as no figures (log 36,
DEDUCED). -/
def unfittedHead (x : Slot HeadRecord) : Head :=
  if !x.good then { Head.init with badAtStart := true }
  else { Head.init with failCount := x.stored.failCount, occupied := x.stored.occupied }

/-- A head as the start leaves it: fitted heads take their state with the output FORCED_OFF; the others stay unfitted.
-/
def startHead (c : RunConfig) (t : Four (Slot HeadRecord)) (h : HeadNo) : Head :=
  if headNumber h ≤ c.press.fitted then (headFromRecord c (t.get h)).forceOff c false h else unfittedHead (t.get h)

def startHeads (c : RunConfig) (t : Four (Slot HeadRecord)) : Four Head :=
  { h1 := startHead c t 0, h2 := startHead c t 1, h3 := startHead c t 2, h4 := startHead c t 3 }

/-- HEAD_OUT for each head that takes OUT, in ascending head number (R161; log 50, DESIGN CHOICE). -/
def headOutRaises (heads : Four Head) : List Raise :=
  (headNos.filter fun h => (heads.get h).state = .out).map fun h => (.headOut, headNumber h)

/-! ### History, checkpoint and recovery (R79, R83, R182 steps 2 to 5) -/

/-- The newest record of a history. -/
def newest (h : List (Slot BatchRecord)) : Option BatchRecord := h.getLast?.map Slot.latest

/-- The batch number counter at a start (R79). -/
def startCounter (t : Store) : Nat :=
  if t.checkpoint.good then t.checkpoint.stored.lastNumber
  else
    match newest t.history with
    | none => 0
    | some r => r.number

/-- The checkpoint's batch, if the checkpoint is good and holds one. -/
def checkpointRecord (t : Store) : Option BatchRecord := if t.checkpoint.good then t.checkpoint.stored.record else none

/-- The checkpoint's batch was running at the reset. -/
def runningRecord (t : Store) : Option BatchRecord :=
  match checkpointRecord t with
  | none => none
  | some r => if r.outcome = .running then some r else none

/-- A batch closed on the vat whose history write did not complete (R83). -/
def unwritten (t : Store) (r : BatchRecord) : Bool :=
  match newest t.history with
  | none => true
  | some n => decide (n.number < r.number)

/-- The checkpoint's batch enters the history where R83 asks: INTERRUPTED with its checkpoint written if it was RUNNING
(log 34, DEDUCED), or with its closed outcome if its history write did not complete, also where an earlier recovery
began that write (log 45, DEDUCED). -/
def recoverCheckpoint (s : State) : State :=
  match checkpointRecord s.store with
  | none => s
  | some r =>
    if r.outcome = .running then
      let r' := { r with outcome := .interrupted }
      let s := s.setStore { s.store with
        checkpoint := s.store.checkpoint.write { lastNumber := s.seq.counter, record := some r' } }
      writeHistory r' s
    else if unwritten s.store r then writeHistory r s
    else s

/-- The lane close of recovery (R83). -/
def BatchRecord.recover (r : BatchRecord) : BatchRecord :=
  { r with
    flagged := r.flagged + (r.made - r.pressed)
    outcome := if r.outcome = .vatDone ∨ r.outcome = .running then .interrupted else r.outcome
    laneClosed := true }

/-- The history records that recovery closes on the lane. -/
def openOnLane (t : Store) : List BatchRecord := (t.history.map Slot.latest).filter fun r => !r.laneClosed

/-- Every record not closed on the lane is closed and written (R83). -/
def recoverLane (s : State) : State :=
  s.setStore { s.store with
    history := s.store.history.map fun x => if x.latest.laneClosed then x else x.write x.latest.recover }

/-- BATCH_INTERRUPTED: once with detail 0 for a bad checkpoint, and once for each batch that takes outcome INTERRUPTED,
in ascending batch number (R182; log 21, DEDUCED). -/
def interruptedRaises (badCheckpoint : Bool) (running : Option BatchRecord) (closed : List BatchRecord) : List Raise :=
  (if badCheckpoint then [(AlertKind.batchInterrupted, 0)] else [])
    ++ (closed.filter fun r =>
          r.outcome = .vatDone || r.outcome = .running || running.any fun x => x.number = r.number).map
        fun r => (AlertKind.batchInterrupted, r.number)

/-- The steps of R182, taken in one event with the running configuration just loaded. -/
def recover (c : RunConfig) (s : State) : State :=
  let heads := startHeads c s.store.headTable
  let s := s.setPress { s.press with heads := heads }
  let s := s.setStore { s.store with history := s.store.history.filter fun x => x.good }
  let badCheckpoint := !s.store.checkpoint.good
  let running := runningRecord s.store
  let s := s.setSeq { s.seq with counter := startCounter s.store }
  let s := recoverCheckpoint s
  let closed := openOnLane s.store
  let s := recoverLane s
  let s := s.setSeq { SeqState.init with
    counter := s.seq.counter
    step := if badCheckpoint || running.isSome then .stopped else .idle
    current := match running with
      | none => .none
      | some r => .closed r.number }
  let estop := if s.lines.estop then [(AlertKind.estop, 0)] else []
  let s := raiseAll c (estop ++ headOutRaises heads ++ interruptedRaises badCheckpoint running closed) s
  closed.foldl (fun s r => offerReport r.recover s) s

/-! ### The start sequence (R181 to R183) -/

/-- Entry into LISTEN (R2, R183): the listen timer at twice the peer timeout, the opening second begun, the port
served. The end of the start reckons no pool: its mode is no change that R47's row names (log 52, DESIGN CHOICE). -/
def enterListen (c : RunConfig) (s : State) : State :=
  let s := s.setStart { s.start with mode := .listen, listenMs := 2 * c.peerTimeout * 1000 }
  let s := s.setLink { s.link with opening := true, openingMs := 0 }
  s.setPort { s.port with mode := .waiting }

/-- The start sequence (R181): SETUP_ONLY when a section is bad, else the running configuration, the steps of R182 and
LISTEN. Station seconds count from the start (R77). -/
def startStation (s : State) : State :=
  let s := updateCauses (s.setLines { s.lines with reset := false })
  if s.store.sections.any (fun x => !x.good) then
    (s.setStart { s.start with mode := .setupOnly }).setPort { s.port with mode := .waiting }
  else
    let c := loadConfig (s.store.sections.map Slot.stored)
    let s := (s.setConfig (some c)).setStart { s.start with stationMs := 0 }
    enterListen c (recover c s)

/-- The listen timer has run out (R183). -/
def listenOver (s : State) : Bool := s.start.mode = .listen && s.start.listenMs == 0

/-! ### The commands -/

/-- RESET (R180). -/
def execReset (cause : Cause) (s : State) : Host.Outcome State Fault Refusal := event s (resetStation cause s)

/-- START_SEQUENCE (R181): the reset ends. -/
def execStartSequence (s : State) : Host.Outcome State Fault Refusal :=
  event s (if s.start.mode = .starting then startStation s else s)

/-- LISTEN_TIMER_EXPIRY (R183): READY, and both pools reckoned (R55). -/
def execListenTimerExpiry (s : State) : Host.Outcome State Fault Refusal :=
  event s (whenRunning s fun c =>
    if listenOver s then reckonBoth c (s.setStart { s.start with mode := .ready }) else s)

end Sys2Proof.Machine
end

