-- ==== Sys2Proof/Machine/Port.lean ====
section
/-! DEFINITION. Chapter 11: taking a command frame in, its checks and its response, and the commands of the setup port. A
row of a setup command is its whole frame (log 28, DESIGN CHOICE). -/

namespace Sys2Proof.Machine

/-! ### Taking a frame in (R171, R172) -/

/-- Put a response in hand; the port stays BUSY until it is sent. -/
def respond (r : Response) (s : State) : State := s.setPort { s.port with response := some r, work := .none }

def done (code : Byte) (body : List Byte) : Response := { outcome := .done, code := code, result := .none, body := body }

def failed (code : Byte) (result : ResponseResult) (body : List Byte) : Response :=
  { outcome := .failed, code := code, result := result, body := body }

/-- Discard characters (R171). -/
def discardCharacters (n : Nat) (s : State) : State :=
  s.setPort { s.port with discard := satAdd 65535 s.port.discard n }

/-- A command frame taken in while the port is served and not BUSY: the port goes BUSY with the frame in its buffer,
and the frame is judged. A length above 240 ends reception at the length character, and the answer is LENGTH, whatever
its code (log 27, DEDUCED); each character the terminal goes on sending comes in BUSY, as a SETUP_CHARACTER_DISCARD. A
frame that arrives in BUSY, or before the port is served, is discarded and counted (R171, R172). -/
def takeCommand (code : Byte) (body : List Byte) (crc : BitVec 16) (act : State → State) (s : State) : State :=
  match s.port.mode with
  | .unserved => discardCharacters (5 + body.length) s
  | .busy => discardCharacters (5 + body.length) s
  | .waiting => take s
  | .receiving => take s
where
  /-- Reception in WAITING or RECEIVING. -/
  take (s : State) : State :=
    if 240 < body.length then
      respond (failed code .length [])
        (s.setPort { s.port with mode := .busy, buffer := [0xC3#8, code, byte body.length], response := none })
    else
      act (s.setPort { s.port with mode := .busy, buffer := commandCharacters code body crc, response := none })

/-- A command frame with a good CRC (R173). -/
def takeGood (code : Byte) (body : List Byte) (act : State → State) (s : State) : State :=
  takeCommand code body (commandCrc code body) act s

/-- A command without a body, whose response carries what `out` reads (R173). -/
def takeRead (code : Byte) (body : List Byte) (out : State → List Byte) (s : State) : State :=
  takeGood code body (fun s => respond (if body = [] then done code (out s) else failed code .length []) s) s

/-! ### Reading settings (R174) -/

/-- READ SETTINGS: a section and a source. -/
def readSettings (code : Byte) (body : List Byte) (s : State) : Response :=
  match body with
  | [sec, src] =>
    let n := sec.toNat
    if !sectionNumber n || decide (1 < src.toNat) then failed code .range [0#8]
    else if src = 0#8 then
      done code ([sec, src] ++ flag (sectionSlot n s).good ++ (sectionSlot n s).stored)
    else
      match s.config with
      | none => failed code .empty []
      | some c => done code ([sec, src] ++ flag true ++ configContents c n)
  | _ => failed code .length []

/-! ### Writing settings (R175, R176) -/

/-- The state condition of R175's step 2: the step IDLE or STOPPED, and no head in RAMP, HOLD or VENT. -/
def mayWrite (s : State) : Bool :=
  !s.seq.step.holdable && !s.press.heads.toList.any fun hd => hd.regulated || hd.state == .vent

/-- Begin to program a section. -/
def program (n : Nat) (contents : List Byte) (work : PortWork) (s : State) : State :=
  let s := s.setStore { s.store with
    sections := s.store.sections.set (n - 1) ((sectionSlot n s).write contents) }
  s.setPort { s.port with work := work }

/-- WRITE SETTINGS: the checks in their order, then the write (R175). -/
def writeSettings (code : Byte) (body : List Byte) (s : State) : State :=
  match body with
  | [] => respond (failed code .length []) s
  | sec :: contents =>
    let n := sec.toNat
    if !sectionNumber n then respond (failed code .range [0#8]) s
    else if contents.length ≠ sectionSize n then respond (failed code .length []) s
    else if !mayWrite s then respond (failed code .state []) s
    else if rangeFault n contents ≠ 0 then respond (failed code .range [byte (rangeFault n contents)]) s
    else program n contents (.write n contents) s

/-- ERASE SETTINGS: section 1 first (R176). -/
def eraseSettings (code : Byte) (body : List Byte) (s : State) : State :=
  if body ≠ [] then respond (failed code .length []) s
  else if !mayWrite s then respond (failed code .state []) s
  else program 1 (defaultContents 1) (.erase 1) s

/-- The write of section n ends: the store holds `held` with its CRC as `good` says. -/
def endProgram (n : Nat) (held : List Byte) (good : Bool) (s : State) : State :=
  s.setStore { s.store with
    sections := s.store.sections.set (n - 1) ((sectionSlot n s).finishWith held good) }

/-- A programmed section is read back and compared with what was sent (R175, R176); a bad CRC over the contents sent is
no difference (log 43, DESIGN CHOICE). -/
def programDone (held : List Byte) (good : Bool) (s : State) : State :=
  match s.port.work with
  | .write n contents =>
    if held.length ≠ sectionSize n then s
    else respond (if held = contents then done 0x03#8 [] else failed 0x03#8 .verify []) (endProgram n held good s)
  | .erase n =>
    if held.length ≠ sectionSize n then s
    else
      let s := endProgram n held good s
      if held ≠ defaultContents n then respond (failed 0x05#8 .verify [byte n]) s
      else if n < 11 then program (n + 1) (defaultContents (n + 1)) (.erase (n + 1)) s
      else respond (done 0x05#8 []) s
  | .none => s
  | .clearCauses => s
  | .restart => s

/-! ### The other commands -/

/-- CLEAR HEAD FAULTS (R156); a RANGE answer's position byte is unstated (log 16, DESIGN CHOICE). -/
def clearHeadFaults (code : Byte) (body : List Byte) (s : State) : State :=
  match body, s.config with
  | [h], some c =>
    match headNos.find? fun k => headNumber k = h.toNat && headNumber k ≤ c.press.fitted with
    | none => respond (failed code .range [Config.rangePosition]) s
    | some k => respond (done code []) (closePress c s (clearHead c k s))
  | [_], none => respond (failed code .range [Config.rangePosition]) s
  | _, _ => respond (failed code .length []) s

/-- ACK ALERT (R168). -/
def ackAlert (code : Byte) (body : List Byte) (s : State) : State :=
  match body with
  | [k] =>
    if 20 ≤ k.toNat then respond (failed code .range [Config.rangePosition]) s
    else if ackFinds k.toNat s then respond (done code []) (acknowledge k.toNat s)
    else respond (failed code .empty []) s
  | _ => respond (failed code .length []) s

/-- CLEAR CAUSES: the record is written whole with the four flags clear (R179); while a write of it is in flight the
clear is carried by the next (log 44, DESIGN CHOICE). -/
def clearCauses (code : Byte) (body : List Byte) (s : State) : State :=
  if body ≠ [] then respond (failed code .length []) s
  else
    let s := s.setStore { s.store with causes := s.store.causes.write CauseFlags.clear }
    s.setPort { s.port with work := .clearCauses }

/-- RESTART: the DONE response, and the reset when it has been sent (R179). -/
def restartCommand (code : Byte) (body : List Byte) (s : State) : State :=
  if body ≠ [] then respond (failed code .length []) s
  else
    let s := respond (done code []) s
    s.setPort { s.port with work := .restart }

/-- The write of the cause-flag record ends with `held` in the store; the clear's write is verified and answered (R179,
R180). -/
def causeWriteDone (held : Byte) (good : Bool) (s : State) : State :=
  match s.store.causes.inFlight with
  | none => s
  | some written =>
    let s' := s.setStore { s.store with causes := s.store.causes.finishWith (CauseFlags.ofByte held) good }
    if s.port.work = .clearCauses ∧ s.store.causes.next = none then
      respond (if held = byte written.code then done 0x22#8 [] else failed 0x22#8 .verify []) s'
    else s'

/-- The response has been sent whole (R173, R179): the port is WAITING again, or a RESTART resets the station. -/
def endResponse (s : State) : State :=
  match s.port.mode, s.port.response with
  | .busy, some _ =>
    if s.port.work = .restart then resetStation .restart s
    else s.setPort { s.port with mode := .waiting, buffer := [], response := none, work := .none }
  | _, _ => s

/-! ### The commands: the port's own events -/

/-- COMMAND_FRAME_BEGIN (R171, R172): a start byte. -/
def execCommandFrameBegin (s : State) : Host.Outcome State Fault Refusal :=
  event s (match s.port.mode with
    | .waiting => s.setPort { s.port with mode := .receiving, buffer := [0xC3#8] }
    | .receiving => s
    | .busy => discardCharacters 1 s
    | .unserved => discardCharacters 1 s)

/-- SETUP_CHARACTER_DISCARD (R171): a character in BUSY, or before the port is served, or in WAITING other than the
start byte. -/
def execSetupCharacterDiscard (character : Byte) (s : State) : Host.Outcome State Fault Refusal :=
  event s (match s.port.mode with
    | .waiting => if character = 0xC3#8 then s else discardCharacters 1 s
    | .receiving => s
    | .busy => discardCharacters 1 s
    | .unserved => discardCharacters 1 s)

/-- SETUP_FRAME_ABANDON (R172): a gap of more than 100 ms in RECEIVING. -/
def execSetupFrameAbandon (gapMicros : Nat) (s : State) : Host.Outcome State Fault Refusal :=
  event s (if s.port.mode = .receiving ∧ 100000 < gapMicros then
    s.setPort { s.port with mode := .waiting, buffer := [], abandoned := satAdd 65535 s.port.abandoned 1 }
  else s)

/-- COMMAND_CRC_FAILED (R173): a frame whose CRC does not match. -/
def execCommandCrcFailed (code : Byte) (body : List Byte) (crc : BitVec 16) (s : State) : Host.Outcome State Fault Refusal :=
  event s (if crc = commandCrc code body then s
    else takeCommand code body crc (respond (failed code .check [])) s)

/-- SETUP_UNKNOWN_COMMAND (R173): a good frame with an unknown command code. -/
def execSetupUnknownCommand (code : Byte) (body : List Byte) (s : State) : Host.Outcome State Fault Refusal :=
  event s (if commandKnown code then s
    else takeGood code body (respond { outcome := .unknown, code := code, result := .none, body := [] }) s)

/-- RESPONSE_SENT (R173, R179). -/
def execResponseSent (s : State) : Host.Outcome State Fault Refusal := event s (endResponse s)

/-! ### The commands: settings -/

/-- IDENTIFY (R174). -/
def execIdentify (body : List Byte) (s : State) : Host.Outcome State Fault Refusal :=
  event s (takeRead 0x01#8 body identifyBody s)

/-- READ_SETTINGS (R174). -/
def execReadSettings (body : List Byte) (s : State) : Host.Outcome State Fault Refusal :=
  event s (takeGood 0x02#8 body (fun s => respond (readSettings 0x02#8 body s) s) s)

/-- WRITE_SETTINGS (R175). -/
def execWriteSettings (body : List Byte) (s : State) : Host.Outcome State Fault Refusal :=
  event s (takeGood 0x03#8 body (writeSettings 0x03#8 body) s)

/-- SETTINGS_PROGRAM_DONE (R175, R176). -/
def execSettingsProgramDone (held : List Byte) (crcGood : Bool) (s : State) : Host.Outcome State Fault Refusal :=
  event s (programDone held crcGood s)

/-- CHECK_SETTINGS (R176). -/
def execCheckSettings (body : List Byte) (s : State) : Host.Outcome State Fault Refusal :=
  event s (takeRead 0x04#8 body checkBody s)

/-- ERASE_SETTINGS (R176). -/
def execEraseSettings (body : List Byte) (s : State) : Host.Outcome State Fault Refusal :=
  event s (takeGood 0x05#8 body (eraseSettings 0x05#8 body) s)

/-! ### The commands: readouts -/

/-- READ_LINK (R15). -/
def execReadLink (body : List Byte) (s : State) : Host.Outcome State Fault Refusal :=
  event s (takeRead 0x10#8 body (fun s => linkBody s.link) s)

/-- READ_PEERS (R31). -/
def execReadPeers (body : List Byte) (s : State) : Host.Outcome State Fault Refusal :=
  event s (takeRead 0x11#8 body peersBody s)

/-- READ_POOLS (R57). -/
def execReadPools (body : List Byte) (s : State) : Host.Outcome State Fault Refusal :=
  event s (takeRead 0x12#8 body poolsBody s)

/-- READ_BATCHES (R84). -/
def execReadBatches (body : List Byte) (s : State) : Host.Outcome State Fault Refusal :=
  event s (takeRead 0x13#8 body batchesBody s)

/-- READ_FILL (R100). -/
def execReadFill (body : List Byte) (s : State) : Host.Outcome State Fault Refusal :=
  event s (takeRead 0x14#8 body (fun s => fillBody s.fill) s)

/-- READ_FIRMNESS (R120). -/
def execReadFirmness (body : List Byte) (s : State) : Host.Outcome State Fault Refusal :=
  event s (takeRead 0x15#8 body firmnessBody s)

/-- READ_KNIFE (R131). -/
def execReadKnife (body : List Byte) (s : State) : Host.Outcome State Fault Refusal :=
  event s (takeRead 0x16#8 body knifeBody s)

/-- READ_QUEUE (R143). -/
def execReadQueue (body : List Byte) (s : State) : Host.Outcome State Fault Refusal :=
  event s (takeRead 0x17#8 body queueBody s)

/-- READ_HEADS (R162). -/
def execReadHeads (body : List Byte) (s : State) : Host.Outcome State Fault Refusal :=
  event s (takeRead 0x18#8 body headsBody s)

/-- READ_ALERTS (R170). -/
def execReadAlerts (body : List Byte) (s : State) : Host.Outcome State Fault Refusal :=
  event s (takeRead 0x19#8 body alertsBody s)

/-- READ_CAUSES (R179). -/
def execReadCauses (body : List Byte) (s : State) : Host.Outcome State Fault Refusal :=
  event s (takeRead 0x1A#8 body causesBody s)

/-! ### The commands: the rest -/

/-- CLEAR_HEAD_FAULTS (R156). -/
def execClearHeadFaults (body : List Byte) (s : State) : Host.Outcome State Fault Refusal :=
  event s (takeGood 0x20#8 body (clearHeadFaults 0x20#8 body) s)

/-- ACK_ALERT (R168). -/
def execAckAlert (body : List Byte) (s : State) : Host.Outcome State Fault Refusal :=
  event s (takeGood 0x21#8 body (ackAlert 0x21#8 body) s)

/-- CLEAR_CAUSES (R179). -/
def execClearCauses (body : List Byte) (s : State) : Host.Outcome State Fault Refusal :=
  event s (takeGood 0x22#8 body (clearCauses 0x22#8 body) s)

/-- RESTART (R179). -/
def execRestart (body : List Byte) (s : State) : Host.Outcome State Fault Refusal :=
  event s (takeGood 0x30#8 body (restartCommand 0x30#8 body) s)

/-- CAUSE_RECORD_WRITE_DONE (R179, R180). -/
def execCauseRecordWriteDone (held : Byte) (crcGood : Bool) (s : State) : Host.Outcome State Fault Refusal :=
  event s (causeWriteDone held crcGood s)

end Sys2Proof.Machine
end

