-- ==== Sys2Proof/Machine/Ticks.lean ====
section
/-! DEFINITION. The passage of time: one millisecond, in which every running clock advances and the timed commands that
fall due are put into the queue (logs 1 and 2, DESIGN CHOICE). -/

namespace Sys2Proof.Machine

/-! ### Clocks -/

/-- Station time from the start (R77) and the listen timer (R183). -/
def StartState.advance (x : StartState) : StartState :=
  { x with
    stationMs := if x.mode = .starting then x.stationMs else x.stationMs + 1
    listenMs := if x.mode = .listen then x.listenMs - 1 else x.listenMs }

/-- The opening second and the time since the last build (R2, R4). -/
def LinkState.advance (x : LinkState) : LinkState :=
  { x with
    openingMs := if x.opening then min 1000 (x.openingMs + 1) else x.openingMs
    sinceBuildMs := min 1000 (x.sinceBuildMs + 1) }

/-- Heard ages (R25). -/
def PeerTable.advance (x : PeerTable) : PeerTable :=
  { x with records := x.records.map fun r => { r with ageMs := min 60000 (r.ageMs + 1) } }

/-- The time toward an own claim's next waited step (R44). -/
def PoolState.advance (x : PoolState) : PoolState :=
  { x with own := x.own.map fun c => { c with stepMs := min 10000 (c.stepMs + 1) } }

/-- The set clock's second, with the mark that one has fallen, and the time of the sample in progress (R102, R105). -/
def CoagState.advance (x : CoagState) : CoagState :=
  { x with
    clockMs := if x.ticking then (x.clockMs + 1) % 1000 else x.clockMs
    secondFallen := x.secondFallen || (x.ticking && (x.clockMs + 1) % 1000 == 0)
    sampleMs := if x.state.sampling then min 30000 (x.sampleMs + 1) else x.sampleMs }

/-- The drive's times: the time since off since, which runs on while RUN is on, the grace, the stall and the drive
second (R121, R126, R127, R131). The stall time runs in RUNNING alone (log 49, DESIGN CHOICE). -/
def KnifeState.advance (x : KnifeState) : KnifeState :=
  { x with
    offMs := min 256000 (x.offMs + 1)
    graceMs := if x.state = .starting then min 5000 (x.graceMs + 1) else x.graceMs
    stallMs := if x.state = .running then min 3000 (x.stallMs + 1) else x.stallMs
    secondMs := if x.state = .running then (x.secondMs + 1) % 1000 else x.secondMs }

/-- The waited times of queued loads, to 65535 s (R140); their seconds are counted from the moment the load is made (log
60, DESIGN CHOICE). -/
def QueueState.advance (x : QueueState) : QueueState :=
  { x with loads := x.loads.map fun l => { l with waitedMs := min 65535000 (l.waitedMs + 1) } }

/-- The output period of 20 ms of a fitted head (R146). -/
def Head.advance (x : Head) : Head := if x.fitted then { x with periodMs := (x.periodMs + 1) % 20 } else x

/-- Every clock advances by one millisecond. -/
def State.advance (s : State) : State :=
  { s with
    start := s.start.advance, link := s.link.advance, peers := s.peers.advance, milk := s.milk.advance,
    air := s.air.advance, coag := s.coag.advance, knife := s.knife.advance, queue := s.queue.advance,
    press := { s.press with heads := s.press.heads.map Head.advance } }

/-! ### The commands that fall due -/

/-- A command, where its moment has come. -/
def dueIf (b : Bool) (i : Instr) : List Instr := if b then [i] else []

/-- A reading of FIRMNESS falls due: eight to a sample period, the first an eighth after its start (R105). -/
def readingDue (c : RunConfig) (s : State) : Bool :=
  s.seq.step = .setting && s.coag.state.sampling &&
    match batchRecipe c s with
    | none => false
    | some r => decide (0 < s.coag.sampleMs) && s.coag.sampleMs % (r.period * 125) == 0

/-- Whole seconds, tenths and drive samples of station time (R34, R47, R87, R144); the command that reports one carries
its own passage of time (log 3, DESIGN CHOICE). -/
def every (ms : Nat) (s : State) : Bool := s.start.stationMs % ms == 0

/-- The drive sample or press second of this moment, with the pressures on the lines (R144). -/
def pressDue (s : State) : List Instr :=
  let p := s.lines.pressure
  if every 1000 s then [.pressSecond p.h1 p.h2 p.h3 p.h4]
  else if every 200 s then [.driveSample p.h1 p.h2 p.h3 p.h4]
  else []

/-- The timed commands of the peer records (R26, R27). -/
def peersDue (c : RunConfig) (s : State) : List Instr :=
  s.peers.records.flatMap fun r =>
    dueIf (timeoutDue c r) (.peerTimeout r.number) ++ dueIf (removalDue r) (.peerRecordRemoval r.number)

/-- A waited step of a pool's own claim (R44). -/
def waitedDue (p : Pool) (s : State) : Bool :=
  match (s.pool p).own with
  | none => false
  | some c => decide (10000 ≤ c.stepMs)

/-- The knife drive's commands (R123, R126, R127). -/
def knifeDue (c : RunConfig) (s : State) : List Instr :=
  dueIf (s.knife.state = .running && s.knife.secondMs == 0) .driveSecond
    ++ dueIf (s.knife.state = .starting && decide (5000 ≤ s.knife.graceMs)) .startGraceEnd
    ++ dueIf (s.knife.state = .dwell && dwellComplete c s) .reverseDwellEnd
    ++ dueIf (s.knife.state = .running && decide (3000 ≤ s.knife.stallMs)) .knifeStall

/-- The timed commands that fall due at the moment reached, in their order (log 2, DESIGN CHOICE). -/
def dueCommands (c : RunConfig) (s : State) : List Instr :=
  dueIf (s.coag.ticking && s.coag.clockMs == 0) .setClockSecond
    ++ dueIf (readingDue c s) (.firmnessReading s.lines.firmness)
    ++ knifeDue c s
    ++ dueIf (every 1000 s) .fillSecond
    ++ dueIf (every 100 s) (.bandSample s.lines.milkTap s.lines.airTap)
    ++ dueIf (every 1000 s) .onceASecondReckoning
    ++ pressDue s
    ++ headNos.flatMap (fun h => dueIf ((s.head h).fitted && (s.head h).periodMs == 0) (.outputPeriodEnd h))
    ++ peersDue c s
    ++ dueIf (waitedDue .milk s) (.waitedStepAdvance .milk)
    ++ dueIf (waitedDue .air s) (.waitedStepAdvance .air)
    ++ s.queue.loads.flatMap (fun l => dueIf (l.lateDue c) (.loadLate l.sequence))
    ++ dueIf (openingOver s) .openingSecondEnd
    ++ dueIf (listenOver s) .listenTimerExpiry
    ++ dueIf (statusDue s) .statusBuild

/-- One millisecond of station time: what a step does when no command waits (log 1, DESIGN CHOICE). -/
def tick (s : State) : State :=
  let s := s.advance
  match s.config with
  | none => s
  | some c => s.setPending (s.pending ++ dueCommands c s)

end Sys2Proof.Machine
end

