-- ==== Sys2Proof/Machine/Dispatch.lean ====
section
/-! DEFINITION. One arm for each command: a direct call of its meaning. -/

namespace Sys2Proof.Machine

def exec (i : Instr) (s : State) : Host.Outcome State Fault Refusal :=
  match i with
  | .runJudged run => Sys2Proof.Machine.execRunJudged run s
  | .runFramingError cause => Sys2Proof.Machine.execRunFramingError cause s
  | .linkErrorTallyFull => Sys2Proof.Machine.execLinkErrorTallyFull s
  | .statusBuild => Sys2Proof.Machine.execStatusBuild s
  | .openingSecondEnd => Sys2Proof.Machine.execOpeningSecondEnd s
  | .transmissionAttemptStart idleMicros => Sys2Proof.Machine.execTransmissionAttemptStart idleMicros s
  | .collision => Sys2Proof.Machine.execCollision s
  | .txDropped => Sys2Proof.Machine.execTxDropped s
  | .backoffExpiry idleMicros => Sys2Proof.Machine.execBackoffExpiry idleMicros s
  | .frameSent => Sys2Proof.Machine.execFrameSent s
  | .orderStart sender arg tag => Sys2Proof.Machine.execOrderStart sender arg tag s
  | .orderHold all sender arg tag => Sys2Proof.Machine.execOrderHold all sender arg tag s
  | .orderResume all sender arg tag => Sys2Proof.Machine.execOrderResume all sender arg tag s
  | .orderAbort sender arg tag => Sys2Proof.Machine.execOrderAbort sender arg tag s
  | .orderCutNow sender arg tag => Sys2Proof.Machine.execOrderCutNow sender arg tag s
  | .orderClear sender arg tag => Sys2Proof.Machine.execOrderClear sender arg tag s
  | .orderAck sender arg tag => Sys2Proof.Machine.execOrderAck sender arg tag s
  | .orderUnknown all sender code arg tag => Sys2Proof.Machine.execOrderUnknown all sender code arg tag s
  | .peerTimeout number => Sys2Proof.Machine.execPeerTimeout number s
  | .peerRecordRemoval number => Sys2Proof.Machine.execPeerRecordRemoval number s
  | .bandSample milkRaw airRaw => Sys2Proof.Machine.execBandSample milkRaw airRaw s
  | .bandChange pool => Sys2Proof.Machine.execBandChange pool s
  | .tapDegraded pool => Sys2Proof.Machine.execTapDegraded pool s
  | .degradedEnd pool => Sys2Proof.Machine.execDegradedEnd pool s
  | .onceASecondReckoning => Sys2Proof.Machine.execOnceASecondReckoning s
  | .waitedStepAdvance pool => Sys2Proof.Machine.execWaitedStepAdvance pool s
  | .holdLineActive => Sys2Proof.Machine.execHoldLineActive s
  | .holdLineInactive => Sys2Proof.Machine.execHoldLineInactive s
  | .startLineEdge rising => Sys2Proof.Machine.execStartLineEdge rising s
  | .estopLineActive => Sys2Proof.Machine.execEstopLineActive s
  | .estopLineInactive => Sys2Proof.Machine.execEstopLineInactive s
  | .checkpointWriteDone => Sys2Proof.Machine.execCheckpointWriteDone s
  | .historyWriteDone number => Sys2Proof.Machine.execHistoryWriteDone number s
  | .meterEdge rising => Sys2Proof.Machine.execMeterEdge rising s
  | .coverVolumeReached => Sys2Proof.Machine.execCoverVolumeReached s
  | .fillTargetReached => Sys2Proof.Machine.execFillTargetReached s
  | .fillSecond => Sys2Proof.Machine.execFillSecond s
  | .meterFault => Sys2Proof.Machine.execMeterFault s
  | .fillSlow => Sys2Proof.Machine.execFillSlow s
  | .settleEnd => Sys2Proof.Machine.execSettleEnd s
  | .doseEnd => Sys2Proof.Machine.execDoseEnd s
  | .setClockSecond => Sys2Proof.Machine.execSetClockSecond s
  | .mixEnd => Sys2Proof.Machine.execMixEnd s
  | .sampleComplete raw => Sys2Proof.Machine.execSampleComplete raw s
  | .firmnessSensor => Sys2Proof.Machine.execFirmnessSensor s
  | .noFloc => Sys2Proof.Machine.execNoFloc s
  | .cutDue => Sys2Proof.Machine.execCutDue s
  | .reverseDwellEnd => Sys2Proof.Machine.execReverseDwellEnd s
  | .startGraceEnd => Sys2Proof.Machine.execStartGraceEnd s
  | .driveSecond => Sys2Proof.Machine.execDriveSecond s
  | .cutDurationRun => Sys2Proof.Machine.execCutDurationRun s
  | .rampTimeRun => Sys2Proof.Machine.execRampTimeRun s
  | .stirTimeRun => Sys2Proof.Machine.execStirTimeRun s
  | .turnEdge rising => Sys2Proof.Machine.execTurnEdge rising s
  | .knifeStall => Sys2Proof.Machine.execKnifeStall s
  | .driveFaultActive level => Sys2Proof.Machine.execDriveFaultActive level s
  | .loadDoneEdge rising => Sys2Proof.Machine.execLoadDoneEdge rising s
  | .mouldingEnd => Sys2Proof.Machine.execMouldingEnd s
  | .vatEmptyActive level => Sys2Proof.Machine.execVatEmptyActive level s
  | .loadLate sequence => Sys2Proof.Machine.execLoadLate sequence s
  | .driveSample raw1 raw2 raw3 raw4 => Sys2Proof.Machine.execDriveSample raw1 raw2 raw3 raw4 s
  | .pressSecond raw1 raw2 raw3 raw4 => Sys2Proof.Machine.execPressSecond raw1 raw2 raw3 raw4 s
  | .stageHoldEnd head => Sys2Proof.Machine.execStageHoldEnd head s
  | .holdUnderpressure head => Sys2Proof.Machine.execHoldUnderpressure head s
  | .headPendingOut head => Sys2Proof.Machine.execHeadPendingOut head s
  | .ventEnd head => Sys2Proof.Machine.execVentEnd head s
  | .headUnload head => Sys2Proof.Machine.execHeadUnload head s
  | .guardOpen => Sys2Proof.Machine.execGuardOpen s
  | .guardClose => Sys2Proof.Machine.execGuardClose s
  | .headRecordWriteDone head => Sys2Proof.Machine.execHeadRecordWriteDone head s
  | .setupFrameAbandon gapMicros => Sys2Proof.Machine.execSetupFrameAbandon gapMicros s
  | .setupCharacterDiscard character => Sys2Proof.Machine.execSetupCharacterDiscard character s
  | .setupUnknownCommand code body => Sys2Proof.Machine.execSetupUnknownCommand code body s
  | .responseSent => Sys2Proof.Machine.execResponseSent s
  | .identify body => Sys2Proof.Machine.execIdentify body s
  | .readSettings body => Sys2Proof.Machine.execReadSettings body s
  | .writeSettings body => Sys2Proof.Machine.execWriteSettings body s
  | .settingsProgramDone held crcGood => Sys2Proof.Machine.execSettingsProgramDone held crcGood s
  | .checkSettings body => Sys2Proof.Machine.execCheckSettings body s
  | .eraseSettings body => Sys2Proof.Machine.execEraseSettings body s
  | .readLink body => Sys2Proof.Machine.execReadLink body s
  | .readPeers body => Sys2Proof.Machine.execReadPeers body s
  | .readPools body => Sys2Proof.Machine.execReadPools body s
  | .readBatches body => Sys2Proof.Machine.execReadBatches body s
  | .readFill body => Sys2Proof.Machine.execReadFill body s
  | .readFirmness body => Sys2Proof.Machine.execReadFirmness body s
  | .readKnife body => Sys2Proof.Machine.execReadKnife body s
  | .readQueue body => Sys2Proof.Machine.execReadQueue body s
  | .readHeads body => Sys2Proof.Machine.execReadHeads body s
  | .readAlerts body => Sys2Proof.Machine.execReadAlerts body s
  | .readCauses body => Sys2Proof.Machine.execReadCauses body s
  | .clearHeadFaults body => Sys2Proof.Machine.execClearHeadFaults body s
  | .ackAlert body => Sys2Proof.Machine.execAckAlert body s
  | .clearCauses body => Sys2Proof.Machine.execClearCauses body s
  | .restart body => Sys2Proof.Machine.execRestart body s
  | .causeRecordWriteDone held crcGood => Sys2Proof.Machine.execCauseRecordWriteDone held crcGood s
  | .reset cause => Sys2Proof.Machine.execReset cause s
  | .startSequence => Sys2Proof.Machine.execStartSequence s
  | .listenTimerExpiry => Sys2Proof.Machine.execListenTimerExpiry s
  | .firmnessReading raw => Sys2Proof.Machine.execFirmnessReading raw s
  | .outputPeriodEnd head => Sys2Proof.Machine.execOutputPeriodEnd head s
  | .commandFrameBegin => Sys2Proof.Machine.execCommandFrameBegin s
  | .commandCrcFailed code body crc => Sys2Proof.Machine.execCommandCrcFailed code body crc s

end Sys2Proof.Machine
end

