-- ==== Sys2Proof/Safety.lean ====
section
/-! DEFINITION. What a sound station keeps at every moment: the sentences of the manual that hold over the whole life of a
block, each as a property of State that every step is claimed to keep. -/

namespace Sys2Proof.Machine

/-! ### What a command leaves alone -/

/-- The parts of State. -/
inductive Part where
  | pending
  | lines
  | start
  | config
  | link
  | peers
  | milk
  | air
  | seq
  | fill
  | coag
  | knife
  | queue
  | press
  | alerts
  | port
  | store
  | free
deriving DecidableEq, Repr

/-- A part stands in `t` as in `s`; of the Link Controller, all but the mark that a STATUS content has changed, which
any command may set (R4). -/
def Part.kept (s t : State) : Part → Prop
  | .pending => t.pending = s.pending
  | .lines => t.lines = s.lines
  | .start => t.start = s.start
  | .config => t.config = s.config
  | .link => t.link = { s.link with changed := t.link.changed }
  | .peers => t.peers = s.peers
  | .milk => t.milk = s.milk
  | .air => t.air = s.air
  | .seq => t.seq = s.seq
  | .fill => t.fill = s.fill
  | .coag => t.coag = s.coag
  | .knife => t.knife = s.knife
  | .queue => t.queue = s.queue
  | .press => t.press = s.press
  | .alerts => t.alerts = s.alerts
  | .port => t.port = s.port
  | .store => t.store = s.store
  | .free => t.free = s.free

/-- Every part but those named stands in `t` as in `s`. -/
def OnlyChanges (changed : List Part) (s t : State) : Prop := ∀ p, p ∉ changed → p.kept s t

/-- What a raise may change: the pending set and the beacon, the ALERT frame's place in the queue, and, at level 3, the
hold it brings with the claim, the job and the outputs that the hold withdraws (R61, R164). -/
def Part.ofRaise : List Part := [.alerts, .link, .seq, .milk, .fill, .coag, .knife]

/-- A pool with the consumer its grant is handed to (R54). -/
def Part.ofPool : Pool → List Part
  | .milk => [.milk, .fill]
  | .air => [.air, .press]

/-- Both pools with their consumers. -/
def Part.ofPools : List Part := [.milk, .fill, .air, .press]

/-! ### What a sound station keeps -/

/-- A station in `starting` or SETUP_ONLY has no running configuration (R181). -/
def unloaded (s : State) : Prop := s.start.mode = .starting ∨ s.start.mode = .setupOnly → s.config = none

/-- The Link Controller (R2, R6, R16): at most six queued frames, at most one of them a STATUS, and no frame queued or
in flight in MUTE, in SETUP_ONLY or before a start. -/
structure LinkSound (s : State) : Prop where
  unloaded : unloaded s
  atMostSix : s.link.queue.length ≤ 6
  oneStatus : (s.link.queue.filter fun f => f.kind = .status).length ≤ 1
  silent : s.start.mode ≠ .listen → s.start.mode ≠ .ready → s.link.queue = [] ∧ s.link.flight = none

/-- The Peer Table (R19, R20, R26): no record before a configuration is loaded; else at most 31, keyed by the station
numbers 1 to 32 but the own one in ascending order, the last sequence and the missed count each one byte, the heard age
at most 60 s, and no claim in a SILENT record. -/
structure PeersSound (s : State) : Prop where
  unloaded : unloaded s
  empty : s.config = none → s.peers.records = []
  ascending : (s.peers.records.map PeerRecord.number).Pairwise (· < ·)
  keys : ∀ c, s.config = some c → ∀ r ∈ s.peers.records, 1 ≤ r.number ∧ r.number ≤ 32 ∧ r.number ≠ c.stationNumber
  atMost31 : ∀ c, s.config = some c → 1 ≤ c.stationNumber → c.stationNumber ≤ 32 → s.peers.records.length ≤ 31
  figures : ∀ r ∈ s.peers.records, r.lastSeq ≤ 255 ∧ r.missed ≤ 255 ∧ r.ageMs ≤ 60000
  silent : ∀ r ∈ s.peers.records, r.live = false → r.reported.milkClaim = none ∧ r.reported.airClaim = none

/-- The Batch Sequencer (R61, R76, R134): reasons stand in the set only in a holdable step, and OUTLET is on only in an
unheld MOULDING. -/
structure HoldSound (s : State) : Prop where
  holdable : held s = true → s.seq.step.holdable = true
  outlet : s.seq.outlet = true → s.seq.step = .moulding ∧ held s = false

/-- FILLING / FLOW, not held. -/
def inUnheldFlow (s : State) : Prop := s.seq.step = .filling ∧ s.seq.phase = .flow ∧ held s = false

/-- The Fill Unit (R89, R90, R96): the flow command never exceeds the MILK grant and is 0 outside an unheld FILLING /
FLOW; the duty is at most 1000 and is 0 while the command is 0; DOSE PUMP is on only in an unheld FILLING / DOSE. -/
structure FillSound (s : State) : Prop where
  unloaded : unloaded s
  grant : s.fill.grant = s.milk.grant
  command : s.fill.qCmd ≤ s.milk.grant
  flow : 0 < s.fill.qCmd → inUnheldFlow s
  duty : s.fill.duty ≤ 1000
  shut : s.fill.qCmd = 0 → s.fill.duty = 0
  pump : s.fill.dosePump = true → s.seq.step = .filling ∧ s.seq.phase = .dose ∧ held s = false
  starting : s.start.mode = .starting → s.fill.qCmd = 0 ∧ s.fill.dosePump = false

/-- The load sequences a station holds: those queued, oldest first, then those on heads. -/
def queuedSequences (s : State) : List Nat := s.queue.loads.map Load.sequence

def headSequences (s : State) : List Nat := s.press.heads.toList.filterMap fun hd => hd.load.map Load.sequence

/-- The lane (R132, R139, R142): at most sixteen queued loads in ascending load sequence, no load in two places, none
above the counter, and the queue hold active at fourteen or more. -/
structure LaneSound (s : State) : Prop where
  atMostSixteen : s.queue.loads.length ≤ 16
  ascending : (queuedSequences s).Pairwise (· < ·)
  onePlace : (queuedSequences s ++ headSequences s).Nodup
  counted : ∀ n ∈ queuedSequences s ++ headSequences s, n ≤ s.queue.counter
  filled : s.queue.filled ≤ 24
  queueHold : s.queue.queueHold = decide (14 ≤ s.queue.loads.length)

/-- A history record and its writes in flight carry one batch number. -/
def oneNumber (x : Slot BatchRecord) : Prop :=
  (∀ r, x.inFlight = some r → r.number = x.stored.number) ∧ (∀ r, x.next = some r → r.number = x.stored.number)

/-- The batch history (R80): at most eight records, whose batch numbers strictly increase from the oldest to the
newest. -/
structure HistorySound (s : State) : Prop where
  oneNumber : ∀ x ∈ s.store.history, oneNumber x
  atMostEight : s.store.history.length ≤ 8
  increasing : (s.store.history.map fun x => x.stored.number).Pairwise (· < ·)

/-- The batch records (R77, R78, R81): the open record is not closed on the lane, and neither is a RUNNING record that
the checkpoint holds, writes or is to write. -/
structure RecordsSound (s : State) : Prop where
  opened : ∀ r, openRecord s = some r → r.laneClosed = false
  checkpoint : ∀ x, x = s.store.checkpoint.stored ∨ s.store.checkpoint.inFlight = some x ∨ s.store.checkpoint.next = some x →
    ∀ r, x.record = some r → r.outcome = .running → r.laneClosed = false

/-- The Alert Unit (R163, R164, R166): at most one pending record for a kind, in the order of Table 10-1, none below
its minimum level, and the beacon as the pending set shows. -/
structure AlertsSound (s : State) : Prop where
  ordered : (s.alerts.pending.map fun r => r.kind.number).Pairwise (· < ·)
  minimum : ∀ r ∈ s.alerts.pending, r.kind.minLevel ≤ r.level
  beacon : s.alerts.beacon = beaconOf s.alerts.pending

/-- The request that limits a pool's own grant: 0 when no claim stands. -/
def grantLimit (p : PoolState) : Nat :=
  match p.own with
  | none => 0
  | some c => c.request

/-- The Share Unit (R38, R46, R49, R52, R54, R55): a grant is at most the own claim's request, 0 without a claim and 0
outside READY; it stands at its consumer as it was last handed; a degraded tap is judged LOW. -/
structure GrantsSound (s : State) : Prop where
  milk : s.milk.grant ≤ grantLimit s.milk
  air : s.air.grant ≤ grantLimit s.air
  gated : s.start.mode ≠ .ready → s.milk.grant = 0 ∧ s.air.grant = 0
  handedMilk : s.fill.grant = s.milk.grant
  handedAir : s.press.airGrant = s.air.grant
  degradedMilk : s.milk.degraded = true → s.milk.band = .low
  degradedAir : s.air.degraded = true → s.air.band = .low

/-- RUN is on in STARTING and RUNNING (Table 7-1). -/
def DriveState.runs : DriveState → Bool
  | .stopped => false
  | .dwell => false
  | .starting => true
  | .running => true
  | .faulted => false

/-- The Knife Drive Unit (R121 to R127, Table 7-1): RUN is on in STARTING and RUNNING alone and only with a job in
force, and the speed is 0 while RUN is off. -/
structure KnifeSound (s : State) : Prop where
  run : s.knife.run = s.knife.state.runs
  job : s.knife.run = true → s.knife.job ≠ none
  speed : s.knife.run = false → s.knife.speed = 0

end Sys2Proof.Machine
end

