-- ==== Sys2Proof/Certificates/Slice0/Obligations.lean ====
section
/-! DEFINITION. The statements about the model, for the provers. Each docstring names in brackets the rules or the sections
of the manual it rests on. -/

set_option linter.unusedVariables false

open Sys2Proof Sys2Proof.Machine

/-- A step runs the command at the front of the queue. For every state with a command at the front of its queue, a step
is exec of that command on the state with the queue's rest. The queue itself is the form of the block model (log
30). [00_scope.md 1.3 Block overview] -/
def Obligations.FrontCommandRuns : Prop :=
  ∀ (i : Instr) (rest : List Instr) (s : State), s.pending = i :: rest → step s = exec i (s.setPending rest)

/-- A step on an empty queue is one millisecond. The model's choice (logs 1 to 3): with no command waiting, a step
lets one millisecond pass. Only clocks move, each by one, and one mark with the set clock: station time from the
start and, down to 0, the listen timer; the opening second and the time since the last STATUS build, to 1 s; each
heard age, to 60 s; the time toward a claim's next waited step, to 10 s; the set clock's millisecond, with the mark
that a second of it has fallen, which this tick sets at the end of the second (log 26) and no tick takes away, and
the time of the sampling period; off since, in every state of the drive and up to 256 s (log 39); the grace, the
stall and the drive second; the waited time of each queued load; the output period of each fitted head, of 20 ms.
The commands that fall due at the moment reached are put into the queue, and no others: the set-clock second, the
eighths of a sampling period, the drive second and the ends of grace, dwell and stall; every second the fill second,
the reckoning and the press second, every 100 ms the band sample and every 200 ms the drive sample with the readings
on the lines; the output periods, the peers' timeouts and removals, the waited steps, the late loads, the ends of
the opening second and of the listen timer, and the STATUS build, at 1 s or with a change at 100 ms. None falls due
before a configuration is loaded. It rests on log entries 26 (the mark of a second that has fallen), 39 (off since
runs on in every state, to 256 s), 49 (the stall time outside RUNNING), 60 (the moment the waited time counts from).
[00_scope.md 1.6 Conventions; 01_the_make_room_link.md Frame kinds and when the station sends them;
02_the_peer_table.md 2.4 Ageing; 03_header_pools_and_grant_reckoning.md 3.2 The band monitor;
03_header_pools_and_grant_reckoning.md 3.4 The own claims; 03_header_pools_and_grant_reckoning.md 3.5 When the
station reckons; 05_vat_filling_and_dosing.md 5.2 Counting milk; 06_coagulation_monitoring_and_cut_timing.md 6.3
Firmness sampling; 07_knife_drive.md 7.4 Turning and watching; 08_moulding_and_the_load_queue.md 8.4 Waiting and
late loads; 09_press_heads.md 9.1 Heads and their state; 12_start_up_and_recovery.md 12.3 Listening and entering
service] -/
def Obligations.IdleStepIsMillisecond : Prop :=
  ∀ s : State, s.pending = [] →
    ∃ t, step s = .next t
      ∧ OnlyChanges [.pending, .start, .link, .peers, .milk, .air, .coag, .knife, .queue, .press] s t
      ∧ t.start = { s.start with
          stationMs := if s.start.mode = .starting then s.start.stationMs else s.start.stationMs + 1
          listenMs := if s.start.mode = .listen then s.start.listenMs - 1 else s.start.listenMs }
      ∧ t.link = { s.link with
          openingMs := if s.link.opening then min 1000 (s.link.openingMs + 1) else s.link.openingMs
          sinceBuildMs := min 1000 (s.link.sinceBuildMs + 1) }
      ∧ t.peers = { s.peers with records := s.peers.records.map fun r => { r with ageMs := min 60000 (r.ageMs + 1) } }
      ∧ t.milk = { s.milk with own := s.milk.own.map fun x => { x with stepMs := min 10000 (x.stepMs + 1) } }
      ∧ t.air = { s.air with own := s.air.own.map fun x => { x with stepMs := min 10000 (x.stepMs + 1) } }
      ∧ t.coag = { s.coag with
          clockMs := if s.coag.ticking then (s.coag.clockMs + 1) % 1000 else s.coag.clockMs
          secondFallen := s.coag.secondFallen || (s.coag.ticking && s.coag.clockMs % 1000 == 999)
          sampleMs := if s.coag.state = .watch ∨ s.coag.state = .armed then min 30000 (s.coag.sampleMs + 1)
            else s.coag.sampleMs }
      ∧ t.knife = { s.knife with
          offMs := min 256000 (s.knife.offMs + 1)
          graceMs := if s.knife.state = .starting then min 5000 (s.knife.graceMs + 1) else s.knife.graceMs
          stallMs := if s.knife.state = .running then min 3000 (s.knife.stallMs + 1) else s.knife.stallMs
          secondMs := if s.knife.state = .running then (s.knife.secondMs + 1) % 1000 else s.knife.secondMs }
      ∧ t.queue = { s.queue with loads := s.queue.loads.map fun l => { l with waitedMs := min 65535000 (l.waitedMs + 1) } }
      ∧ t.press = { s.press with heads := t.press.heads }
      ∧ (∀ h, t.head h = if (s.head h).state = .unfitted then s.head h
          else { s.head h with periodMs := ((s.head h).periodMs + 1) % 20 })
      ∧ (s.config = none → t.pending = [])
      ∧ (∀ c, s.config = some c →
          let queued := fun i : Instr => i ∈ t.pending
          let at_ := fun ms : Nat => t.start.stationMs % ms = 0
          t.pending = dueCommands c s.advance
            ∧ (queued .setClockSecond ↔ t.coag.ticking = true ∧ t.coag.clockMs = 0)
            ∧ (∀ raw, queued (.firmnessReading raw) ↔ raw = s.lines.firmness ∧ s.seq.step = .setting
                ∧ (t.coag.state = .watch ∨ t.coag.state = .armed)
                ∧ ∃ r, batchRecipe c s = some r ∧ 0 < t.coag.sampleMs ∧ t.coag.sampleMs % (r.period * 125) = 0)
            ∧ (queued .driveSecond ↔ t.knife.state = .running ∧ t.knife.secondMs = 0)
            ∧ (queued .startGraceEnd ↔ t.knife.state = .starting ∧ 5000 ≤ t.knife.graceMs)
            ∧ (queued .reverseDwellEnd ↔ t.knife.state = .dwell ∧ c.lines.reverseDwell * 1000 ≤ t.knife.offMs)
            ∧ (queued .knifeStall ↔ t.knife.state = .running ∧ 3000 ≤ t.knife.stallMs)
            ∧ (queued .fillSecond ↔ at_ 1000) ∧ (queued .onceASecondReckoning ↔ at_ 1000)
            ∧ (∀ a b, queued (.bandSample a b) ↔ at_ 100 ∧ a = s.lines.milkTap ∧ b = s.lines.airTap)
            ∧ (∀ x1 x2 x3 x4, let read := s.lines.pressure = { h1 := x1, h2 := x2, h3 := x3, h4 := x4 }
                (queued (.pressSecond x1 x2 x3 x4) ↔ at_ 1000 ∧ read)
                  ∧ (queued (.driveSample x1 x2 x3 x4) ↔ at_ 200 ∧ ¬ at_ 1000 ∧ read))
            ∧ (∀ h, queued (.outputPeriodEnd h) ↔ (t.head h).state ≠ .unfitted ∧ (t.head h).periodMs = 0)
            ∧ (∀ n, queued (.peerTimeout n) ↔
                ∃ r, r ∈ t.peers.records ∧ r.number = n ∧ r.live = true ∧ c.peerTimeout * 1000 ≤ r.ageMs)
            ∧ (∀ n, queued (.peerRecordRemoval n) ↔ ∃ r, r ∈ t.peers.records ∧ r.number = n ∧ 60000 ≤ r.ageMs)
            ∧ (∀ p, queued (.waitedStepAdvance p) ↔ ∃ x, (t.pool p).own = some x ∧ 10000 ≤ x.stepMs)
            ∧ (∀ n, queued (.loadLate n) ↔ ∃ l, l ∈ t.queue.loads ∧ l.sequence = n ∧ l.flags.late = false
                ∧ ∃ limit, ((c.recipe l.slot).bind fun r => durationLimit r.maxWait) = some limit
                  ∧ limit ≤ l.waitedMs / 1000)
            ∧ (queued .openingSecondEnd ↔ t.start.mode = .listen ∧ t.link.opening = true ∧ 1000 ≤ t.link.openingMs)
            ∧ (queued .listenTimerExpiry ↔ t.start.mode = .listen ∧ t.start.listenMs = 0)
            ∧ (queued .statusBuild ↔ (t.start.mode = .ready ∨ t.start.mode = .listen ∧ t.link.opening = false)
                ∧ (1000 ≤ t.link.sinceBuildMs ∨ t.link.changed = true ∧ 100 ≤ t.link.sinceBuildMs)))

/-- Every command completes and leaves the queue alone. For every command and every state, exec answers a next state,
and the commands that wait stay as they were: no event that the manual describes stops the station, and a reset too
leaves the queue. It rests on log entries 4 (a command whose event cannot occur changes nothing), 30 (the commands
that wait outlive a reset). [00_scope.md 1.3 Block overview; 12_start_up_and_recovery.md 12.1 Reset causes] -/
def Obligations.CommandsComplete : Prop :=
  ∀ (i : Instr) (s : State), ∃ t, exec i s = .next t ∧ t.pending = s.pending

/-- The line is not served before LISTEN, and unknown orders act on nothing. From a reset until LISTEN and throughout
SETUP_ONLY, with no running configuration, a run, a broken run and an order change nothing. An addressed order of a
code other than the seven is answered REFUSED_UNKNOWN and changes nothing else; a room-wide one changes nothing. It
rests on log entry 4 (a command whose event cannot occur changes nothing). [01_the_make_room_link.md Line and
characters; 01_the_make_room_link.md Orders and replies] -/
def Obligations.OrdersNotTaken : Prop :=
  (
    ∀ s : State, s.config = none →
      (∀ run, exec (.runJudged run) s = .next s) ∧ (∀ k, exec (.runFramingError k) s = .next s)
        ∧ (∀ a b t, exec (.orderStart a b t) s = .next s) ∧ (∀ all a b t, exec (.orderHold all a b t) s = .next s)
        ∧ (∀ all a b t, exec (.orderResume all a b t) s = .next s) ∧ (∀ a b t, exec (.orderAbort a b t) s = .next s)
        ∧ (∀ a b t, exec (.orderCutNow a b t) s = .next s) ∧ (∀ a b t, exec (.orderClear a b t) s = .next s)
        ∧ (∀ a b t, exec (.orderAck a b t) s = .next s) ∧ (∀ all a k b t, exec (.orderUnknown all a k b t) s = .next s)
  )
  ∧ (
    ∀ (c : RunConfig) (s : State) (sender code arg tag : Byte), s.config = some c →
      s.start.mode = .listen ∨ s.start.mode = .ready ∨ s.start.mode = .mute →
      (code.toNat = 0 ∨ 8 ≤ code.toNat →
        exec (.orderUnknown false sender code arg tag) s = .next (offer s
          { kind := .reply, dest := sender.toNat, body := [code, tag, byte Verdict.refusedUnknown.code] }))
      ∧ exec (.orderUnknown true sender code arg tag) s = .next s
  )

/-- A run at its expected end is judged by its CRC, then its sender, then its length. A run of the sync byte, the
header, a body of at most 48 bytes and two CRC characters, received while the line is served and no own attempt is
under way, and begun after more than the run gap of 0.3 ms of idle line. A wrong CRC is counted under CRC ERRORS
whatever the sender and kind; with a good CRC, a sender outside 1 to 32 or a length that the kind does not allow is
counted under FRAMING ERRORS; the dropped frame changes nothing but the counters (below a tally of 31;
LinkErrorTally has the rest). A frame that passes is counted under FRAMES GOOD, whatever its kind, destination and
sender. After either the characters that follow within the run gap form a trailing run. Characters that begin within
the run gap, or while an own attempt is under way, form no run and change nothing. It rests on log entry 6 (what
each command brings from outside). [01_the_make_room_link.md Receiving; 01_the_make_room_link.md Link counters;
13_formats.md 13.2 The link frame] -/
def Obligations.RunJudgement : Prop :=
  (
  ∀ (c : RunConfig) (s : State) (idle : Nat) (sender dest kind seq : Byte) (body check : List Byte),
    s.config = some c → receiving s = true → 300 < idle → body.length ≤ 48 → check.length = 2 →
    let inner := [sender, dest, kind, seq, byte body.length] ++ body
    let run : Run := { idleMicros := idle, chars := 0x7E#8 :: (inner ++ check) }
    (check ≠ crcBytes inner → s.link.tally < 31 →
      exec (.runJudged run) s = .next { s with link := { s.link with
        receive := .judged, crcErrors := satAdd 65535 s.link.crcErrors 1, tally := s.link.tally + 1, lastError := some .crc } })
    ∧ (check = crcBytes inner →
        sender.toNat < 1 ∨ 32 < sender.toNat ∨ lengthAllowed kind.toNat body.length = false → s.link.tally < 31 →
        exec (.runJudged run) s = .next { s with link := { s.link with
          receive := .judged, framingErrors := satAdd 65535 s.link.framingErrors 1, tally := s.link.tally + 1, lastError := some .framing } })
    ∧ (check = crcBytes inner → 1 ≤ sender.toNat → sender.toNat ≤ 32 → lengthAllowed kind.toNat body.length = true →
        ∃ t, exec (.runJudged run) s = .next t ∧ t.link.framesGood = satAdd 65535 s.link.framesGood 1
          ∧ t.link.crcErrors = s.link.crcErrors ∧ t.link.framingErrors = s.link.framingErrors
          ∧ t.link.tally = s.link.tally ∧ t.link.receive = .judged)
  )
  ∧ ∀ (s : State) (run : Run), run.idleMicros ≤ 300 ∨ s.link.sending = true → exec (.runJudged run) s = .next s

/-- Each broken run is counted, and a full tally raises LINK_ERRORS. A run begun after the run gap that breaks, whatever
breaks it, and a trailing run, which follows a judged frame within the run gap, advance FRAMING ERRORS (to at most
65535) and the tally once: what follows within the run gap is then ignored. At a tally of 32 LINK_ERRORS is raised
with the last error kind as its detail, and the tally restarts at 0; so does a run at its expected end that fills
the tally, with CRC or FRAMING as RunJudgement drops it. While an own attempt is under way, after a collision until
the run gap, and in any other case no run is formed and nothing changes. It rests on log entries 4 (a command whose
event cannot occur changes nothing), 5 (the row of a follow-on event makes the check of the event that brings it), 6
(what each command brings from outside). [01_the_make_room_link.md Receiving; 01_the_make_room_link.md Link
counters] -/
def Obligations.LinkErrorTally : Prop :=
  ∀ (c : RunConfig) (s : State), s.config = some c →
    let breaks := fun k : RunBreak =>
      (k.fault ≠ .trailingRun ∧ 300 < k.idleMicros)
        ∨ (k.fault = .trailingRun ∧ s.link.receive = .judged ∧ k.idleMicros ≤ 300)
    (∀ k, receiving s = true → breaks k → s.link.tally < 31 →
      exec (.runFramingError k) s = .next { s with link := { s.link with
        receive := .ignoring, framingErrors := satAdd 65535 s.link.framingErrors 1, tally := s.link.tally + 1, lastError := some .framing } })
    ∧ (∀ k, receiving s = true → breaks k → 31 ≤ s.link.tally →
        exec (.runFramingError k) s = .next (noteStatus s (raise c .linkErrors 2 { s with link := { s.link with
          receive := .ignoring, framingErrors := satAdd 65535 s.link.framingErrors 1, tally := 0, lastError := some .framing } })))
    ∧ (∀ (idle : Nat) (sender dest kind seq : Byte) (body check : List Byte),
        receiving s = true → 300 < idle → body.length ≤ 48 → check.length = 2 → 31 ≤ s.link.tally →
        let inner := [sender, dest, kind, seq, byte body.length] ++ body
        let run : Run := { idleMicros := idle, chars := 0x7E#8 :: (inner ++ check) }
        (check ≠ crcBytes inner →
          exec (.runJudged run) s = .next (noteStatus s (raise c .linkErrors 1 { s with link := { s.link with
            receive := .judged, crcErrors := satAdd 65535 s.link.crcErrors 1, tally := 0, lastError := some .crc } })))
        ∧ (check = crcBytes inner →
            sender.toNat < 1 ∨ 32 < sender.toNat ∨ lengthAllowed kind.toNat body.length = false →
            exec (.runJudged run) s = .next (noteStatus s (raise c .linkErrors 2 { s with link := { s.link with
              receive := .judged, framingErrors := satAdd 65535 s.link.framingErrors 1, tally := 0,
              lastError := some .framing } }))))
    ∧ (∀ k, s.link.sending = true ∨ ¬ breaks k → exec (.runFramingError k) s = .next s)
    ∧ (∀ e, s.link.lastError = some e → 32 ≤ s.link.tally →
        exec .linkErrorTallyFull s
          = .next (noteStatus s (raise c .linkErrors e.code { s with link := { s.link with tally := 0 } })))
    ∧ (s.link.tally < 32 → exec .linkErrorTallyFull s = .next s)

/-- A valid frame goes to the Peer Table, and an ORDER for the station or the room to its owner. A valid frame of
another node is counted and handed to the Peer Table; of those, an ORDER addressed to the station, or room-wide, is
also routed, and no other frame is. A valid frame that carries the own number in MUTE is counted and has no further
effect. Routing an ORDER of codes 1 to 7 does what the row of its order does, and one of another code what
ORDER_UNKNOWN does; of the room-wide ones only HOLD and RESUME act. It rests on log entries 6 (what each command
brings from outside), 63 (a STATUS content that changes and changes back inside one event marks no change).
[01_the_make_room_link.md Receiving; 01_the_make_room_link.md Number clash; 01_the_make_room_link.md Orders and
replies] -/
def Obligations.ValidFrameTaken : Prop :=
  (
  ∀ (c : RunConfig) (s : State) (run : Run) (f : RxFrame),
    s.config = some c → receiving s = true → 300 < run.idleMicros → judgeRun run.chars = .valid f →
    let counted := { s with link := { s.link with
      receive := .judged, framesGood := satAdd 65535 s.link.framesGood 1 } }
    (f.sender ≠ c.stationNumber → f.kind ≠ 2 ∨ (f.dest ≠ c.stationNumber ∧ f.dest ≠ 0) →
      exec (.runJudged run) s = .next (noteStatus s (takeFrame c f counted)))
    ∧ (∀ code arg tag, f.sender ≠ c.stationNumber → f.kind = 2 → f.body = [code, arg, tag] →
        f.dest = c.stationNumber →
        exec (.runJudged run) s
          = .next (noteStatus s (routeOrder (takeFrame c f counted) false (byte f.sender) code arg tag)))
    ∧ (∀ code arg tag, f.sender ≠ c.stationNumber → f.kind = 2 → f.body = [code, arg, tag] →
        f.dest ≠ c.stationNumber → f.dest = 0 →
        exec (.runJudged run) s
          = .next (noteStatus s (routeOrder (takeFrame c f counted) true (byte f.sender) code arg tag)))
    ∧ (f.sender = c.stationNumber → s.start.mode = .mute → exec (.runJudged run) s = .next counted)
  )
  ∧ (
    ∀ (s : State) (all : Bool) (sender arg tag : Byte),
      let routed := fun (all : Bool) (code : Byte) => noteStatus s (routeOrder s all sender code arg tag)
      exec (.orderStart sender arg tag) s = .next (routed false 1)
        ∧ exec (.orderHold all sender arg tag) s = .next (routed all 2)
        ∧ exec (.orderResume all sender arg tag) s = .next (routed all 3)
        ∧ exec (.orderAbort sender arg tag) s = .next (routed false 4)
        ∧ exec (.orderCutNow sender arg tag) s = .next (routed false 5)
        ∧ exec (.orderClear sender arg tag) s = .next (routed false 6)
        ∧ exec (.orderAck sender arg tag) s = .next (routed false 7)
        ∧ (∀ code : Byte, code.toNat = 0 ∨ 8 ≤ code.toNat →
            exec (.orderUnknown all sender code arg tag) s = .next (routed all code))
        ∧ (∀ code : Byte, code.toNat ≠ 2 → code.toNat ≠ 3 → routeOrder s true sender code arg tag = s)
  )

/-- A number clash in LISTEN or READY puts the station in MUTE. A valid frame that carries the own number, received in
LISTEN or READY, sets the mode to MUTE, empties the queue, clears the frame in flight, sets both own grants to 0 and
leaves NUMBER_CLASH pending, with the frame's kind as its detail when it was not pending; the frame is counted under
FRAMES GOOD, and the Peer Table, the counters of errors, the lane's queue, the store and the port stay as they were.
It rests on log entry 6 (what each command brings from outside). [01_the_make_room_link.md Number clash] -/
def Obligations.NumberClashMutes : Prop :=
  ∀ (c : RunConfig) (s : State) (run : Run) (f : RxFrame),
    s.config = some c → receiving s = true → 300 < run.idleMicros → judgeRun run.chars = .valid f →
    f.sender = c.stationNumber →
    s.start.mode = .listen ∨ s.start.mode = .ready →
    ∃ t, exec (.runJudged run) s = .next t
      ∧ t.start.mode = .mute ∧ t.link.queue = [] ∧ t.link.flight = none
      ∧ t.link.framesGood = satAdd 65535 s.link.framesGood 1 ∧ t.link.crcErrors = s.link.crcErrors
      ∧ t.link.framingErrors = s.link.framingErrors ∧ t.link.nextSeq = s.link.nextSeq
      ∧ t.milk.grant = 0 ∧ t.air.grant = 0
      ∧ isPending .numberClash t = true
      ∧ (isPending .numberClash s = false → ∃ r ∈ t.alerts.pending, r.kind = .numberClash ∧ r.detail = f.kind ∧ 3 ≤ r.level)
      ∧ OnlyChanges [.start, .link, .milk, .air, .seq, .fill, .coag, .knife, .press, .alerts] s t

/-- An offered frame replaces a queued STATUS, joins the tail, or is counted as an overrun. In MUTE and SETUP_ONLY an
offer changes nothing. Else a STATUS offered while one is queued overwrites it in its place; any other offer joins
the tail of a queue of fewer than six; at a full queue the frame is discarded and QUEUE OVERRUN is counted.
[01_the_make_room_link.md Frame kinds and when the station sends them; 01_the_make_room_link.md The transmit queue] -/
def Obligations.TransmitQueue : Prop :=
  ∀ (s : State) (f : TxFrame),
    (s.start.mode = .mute ∨ s.start.mode = .setupOnly → offer s f = s)
    ∧ (s.start.mode ≠ .mute → s.start.mode ≠ .setupOnly →
        (∀ n g, f.kind = .status → s.link.queue[n]? = some g → g.kind = .status →
          (s.link.queue.filter fun x => x.kind = .status).length ≤ 1 →
          offer s f = { s with link := { s.link with queue := s.link.queue.set n f } })
        ∧ (f.kind ≠ .status ∨ (∀ g ∈ s.link.queue, g.kind ≠ .status) →
            (s.link.queue.length < 6 → offer s f = { s with link := { s.link with queue := s.link.queue ++ [f] } })
            ∧ (6 ≤ s.link.queue.length → offer s f = { s with link := { s.link with
                queueOverrun := satAdd 65535 s.link.queueOverrun 1 } })))

/-- The frame in flight from its first attempt to its end. A first attempt takes the head of the queue with the current
sequence value, modulo 256; a collision is counted and advances the attempt count, and the eighth drops the frame;
after the access gap of 1 ms and k slots of 0.5 ms of idleness the next attempt begins with the same frame; a frame
that completes is cleared. What is read back in an attempt, and what follows a collision within the run gap, forms
no run. Each command changes the Link Controller alone, and a shorter idleness nothing. It rests on log entries 4 (a
command whose event cannot occur changes nothing), 5 (the row of a follow-on event makes the check of the event that
brings it), 31 (the moments the sender reports). [01_the_make_room_link.md The transmit queue;
01_the_make_room_link.md Gaining the line] -/
def Obligations.TransmissionAttempts : Prop :=
  ∀ (c : RunConfig) (s : State) (l : LinkState), s.link = l →
    (∀ idle f rest, l.flight = none → l.queue = f :: rest →
      s.start.mode = .ready ∨ (s.start.mode = .listen ∧ l.opening = false) → 1000 ≤ idle →
      exec (.transmissionAttemptStart idle) s = .next { s with link := { l with
        queue := rest, nextSeq := (l.nextSeq + 1) % 256, receive := .ignoring,
        flight := some { frame := f, seq := l.nextSeq, attempts := 0, sending := true } } })
    ∧ (∀ idle, idle < 1000 → exec (.transmissionAttemptStart idle) s = .next s)
    ∧ (∀ f, l.flight = some f → f.sending = true → f.attempts + 1 < 8 →
        exec .collision s = .next { s with link := { l with
          collisions := satAdd 65535 l.collisions 1, receive := .ignoring,
          flight := some { f with attempts := f.attempts + 1, sending := false } } })
    ∧ (∀ f, l.flight = some f → f.sending = true → 8 ≤ f.attempts + 1 →
        exec .collision s = .next { s with link := { l with
          collisions := satAdd 65535 l.collisions 1, txDropped := satAdd 65535 l.txDropped 1, receive := .ignoring,
          flight := none } })
    ∧ (∀ f, l.flight = some f → 8 ≤ f.attempts →
        exec .txDropped s = .next { s with link := { l with txDropped := satAdd 65535 l.txDropped 1, flight := none } })
    ∧ (∀ idle f, s.config = some c → l.flight = some f → f.sending = false →
        1000 + 500 * (((c.stationNumber - 1) + 7 * f.attempts) % 32 + 1) ≤ idle →
        exec (.backoffExpiry idle) s = .next { s with link := { l with
          receive := .ignoring, flight := some { f with sending := true } } })
    ∧ (∀ idle f, s.config = some c → l.flight = some f →
        idle < 1000 + 500 * (((c.stationNumber - 1) + 7 * f.attempts) % 32 + 1) →
        exec (.backoffExpiry idle) s = .next s)
    ∧ (∀ f, l.flight = some f → f.sending = true → exec .frameSent s = .next { s with link := { l with flight := none } })

/-- A STATUS is built when its content has changed, from the state at its moment, and a pool whose carried claim
changes is reckoned. 1 s after the previous build, or 100 ms after it with a change, in READY or in LISTEN past the
opening second, and at the end of the opening second: the STATUS carries the contents of that moment and stands in
the queue if it holds a STATUS or fewer than six frames; both claims as carried become those it carries, and exactly
a pool whose carried claim changed is reckoned, on the claims now carried; only the Link Controller, the pools and
the consumers of the grants change. Before that, a build changes nothing. An event whose end finds the content of
STATUS, the mode among it, other than its beginning sets the changed mark, and the mark of one that finds it equal
stays as its effect left it (log 63); a reset leaves none. The contents are the role VAT, the mode, the batch
number, the step, the held flag, the bands, the heads that are fitted, not OUT and not pending-out, the highest
level pending, and in READY each own claim with its holding flag set while the own grant is above 0. The body is
laid out byte by byte, an absent claim as nothing and an absent level as FF hex. It rests on log entries 4 (a
command whose event cannot occur changes nothing), 63 (a content that changes and changes back inside one event
marks no change). [01_the_make_room_link.md Frame kinds and when the station sends them;
03_header_pools_and_grant_reckoning.md 3.4 The own claims; 03_header_pools_and_grant_reckoning.md 3.5 When the
station reckons; 13_formats.md 13.2 The link frame] -/
def Obligations.StatusBuilt : Prop :=
  (
  ∀ (c : RunConfig) (s : State), s.config = some c →
    let carrying := { s with
      milk := { s.milk with carried := statusClaim s .milk }, air := { s.air with carried := statusClaim s .air } }
    let changes := fun p : Pool => statusClaim s p ≠ (s.pool p).carried
    let built := fun t : State =>
      t.link.sinceBuildMs = 0 ∧ t.milk.carried = statusClaim s .milk ∧ t.air.carried = statusClaim s .air
        ∧ (∀ p, t.pool p = if changes p then (reckon c p carrying).pool p else carrying.pool p)
        ∧ t.fill = (if changes .milk then (reckon c .milk carrying).fill else s.fill)
        ∧ t.press = (if changes .air then (reckon c .air carrying).press else s.press)
        ∧ (s.link.queue.length < 6 ∨ s.link.queue.any (fun g => g.kind = .status) = true →
            { kind := .status, dest := 0, body := statusBytes s.start.mode.code (statusContents s) } ∈ t.link.queue)
        ∧ t.link.flight = s.link.flight ∧ t.link.nextSeq = s.link.nextSeq ∧ t.link.framesGood = s.link.framesGood
        ∧ OnlyChanges [.link, .milk, .air, .fill, .press] s t
    (s.start.mode = .ready ∨ (s.start.mode = .listen ∧ s.link.opening = false) →
      1000 ≤ s.link.sinceBuildMs ∨ (s.link.changed = true ∧ 100 ≤ s.link.sinceBuildMs) →
      ∃ t, exec .statusBuild s = .next t ∧ built t ∧ t.link.opening = s.link.opening)
    ∧ (s.link.sinceBuildMs < 1000 → s.link.changed = false ∨ s.link.sinceBuildMs < 100 → exec .statusBuild s = .next s)
    ∧ (s.start.mode = .listen → s.link.opening = true → 1000 ≤ s.link.openingMs →
        ∃ t, exec .openingSecondEnd s = .next t ∧ built t ∧ t.link.opening = false)
  )
  ∧ (
    (∀ (i : Instr) (s t : State), exec i s = .next t → t.start.mode ≠ .starting →
      statusContents s ≠ statusContents t ∨ s.start.mode ≠ t.start.mode → t.link.changed = true)
    ∧ ∀ s t : State,
        let same := statusContents s = statusContents t ∧ s.start.mode = t.start.mode
        (same ∨ t.start.mode = .starting → noteStatus s t = t)
          ∧ (¬ same → t.start.mode ≠ .starting → noteStatus s t = { t with link := { t.link with changed := true } })
  )
  ∧ (
    ∀ (s : State) (p : Pool),
      let x := statusContents s
      let hold := s.seq.hold
      let counts := fun h => (s.head h).state ≠ .unfitted ∧ (s.head h).state ≠ .out ∧ (s.head h).pendingOut = false
      x.role = .vat ∧ (x.ready = true ↔ s.start.mode = .ready)
        ∧ x.batchNumber = (match s.seq.current with
            | .none => 0
            | .opened b => b.number
            | .closed n => n)
        ∧ x.step = s.seq.step
        ∧ (x.held = true ↔ hold.order = true ∨ hold.line = true ∨ hold.alert = true ∨ hold.meter = true ∨ hold.knife = true)
        ∧ x.milkBand = s.milk.band ∧ x.airBand = s.air.band
        ∧ x.usableHeads = (headNos.filter fun h => counts h).length
        ∧ (x.highest = none ↔ s.alerts.pending = [])
        ∧ (∀ n, x.highest = some n ↔ (∃ r ∈ s.alerts.pending, r.level = n) ∧ ∀ r ∈ s.alerts.pending, r.level ≤ n)
        ∧ x.milkClaim = statusClaim s .milk ∧ x.airClaim = statusClaim s .air
        ∧ (s.start.mode ≠ .ready ∨ (s.pool p).own = none → statusClaim s p = none)
        ∧ (∀ own, s.start.mode = .ready → (s.pool p).own = some own →
            statusClaim s p = some { level := own.level, holding := decide (0 < (s.pool p).grant), waited := own.waited,
                                     request := own.request, floor := own.floor })
  )
  ∧ (
    ∀ (mode : Mode) (x : Reported),
      let one := fun n : Nat => BitVec.ofNat 8 n
      let two := fun n : Nat => [one (n / 256), one n]
      let set := fun b : Bool => one (if b then 1 else 0)
      let band := fun b : Band => one (match b with
        | .normal => 0
        | .low => 1
        | .starved => 2)
      let claim := fun k : Claim => [one k.level, set k.holding, one k.waited] ++ two k.request ++ two k.floor
      let carried := fun k : Option Claim => match k with
        | none => []
        | some k => claim k
      statusBytes mode.code x =
        [one (if x.role = .vat then 1 else 2),
          one (match mode with
            | .starting => 0
            | .listen => 1
            | .ready => 2
            | .mute => 3
            | .setupOnly => 4)]
          ++ two x.batchNumber
          ++ [one (match x.step with
            | .idle => 0
            | .filling => 1
            | .setting => 2
            | .cutting => 3
            | .stirring => 4
            | .moulding => 5
            | .stopped => 6), set x.held, band x.milkBand, band x.airBand, one x.usableHeads,
            one (match x.highest with
              | none => 255
              | some n => n),
            one (match x.milkClaim, x.airClaim with
              | none, none => 0
              | some _, none => 1
              | none, some _ => 2
              | some _, some _ => 3)]
          ++ carried x.milkClaim ++ carried x.airClaim
  )

/-- What a valid frame does to its sender's record. A well-formed STATUS of destination 0 creates a LIVE record with
missed count 0 and age 0, or is tracked against the record and replaces its reported fields, age 0 and LIVE; a
malformed one is counted and at most tracked; any other frame is at most tracked. Tracking adds (sequence - last
sequence - 1) mod 256 to the missed count, which stops at 255. A pool is reckoned as PeersAge says, exactly when the
sender's contribution to it changed. A body reads back as the contents it was laid out from, when these are within
their defined values, and reads as nothing else; a body of 11 bytes or more is malformed exactly when a role, mode,
step, band, flag, level, count, request or floor lies outside its defined values, or the presence byte is 4 or above
or disagrees with the length. No other record changes, nor any part but the table, the pools and their consumers.
[02_the_peer_table.md 2.2 Taking a STATUS in; 02_the_peer_table.md 2.3 Counting missed frames; 02_the_peer_table.md
2.5 The view the Share Unit reckons on; 13_formats.md 13.2 The link frame] -/
def Obligations.PeerFrames : Prop :=
  (
  ∀ (c : RunConfig) (f : RxFrame) (s : State),
    let t := takeFrame c f s
    let old := findPeer f.sender s.peers.records
    let new := findPeer f.sender t.peers.records
    let isStatus := f.kind = 1 ∧ f.dest = 0
    let tracked := fun r : PeerRecord =>
      { r with missed := min 255 (r.missed + (((f.seq : Int) - r.lastSeq - 1) % 256).toNat), lastSeq := f.seq }
    (∀ r, old = some r → r.lastSeq ≤ 255) →
    (∀ x, isStatus → parseStatus f.body = some x →
        (old = none → new = some
          { number := f.sender, live := true, lastSeq := f.seq, missed := 0, ageMs := 0, reported := x })
        ∧ (∀ r, old = some r → new = some { tracked r with reported := x, ageMs := 0, live := true })
        ∧ t.peers.malformed = s.peers.malformed)
    ∧ (isStatus → parseStatus f.body = none →
        new = old.map tracked ∧ t.peers.malformed = satAdd 65535 s.peers.malformed 1)
    ∧ (¬ isStatus → new = old.map tracked ∧ t.peers.malformed = s.peers.malformed)
    ∧ (∀ m, m ≠ f.sender → findPeer m t.peers.records = findPeer m s.peers.records)
    ∧ t = changePeers c f.sender t.peers s
    ∧ OnlyChanges (.peers :: Part.ofPools) s t
  )
  ∧ (
    let body := fun x : Reported => statusBytes (if x.ready = true then 2 else 1) x
    let claimFits := fun k : Claim =>
      k.level ≤ 3 ∧ k.waited ≤ 255 ∧ 1 ≤ k.request ∧ k.request ≤ 4000 ∧ k.floor ≤ k.request
    let fits := fun x : Reported =>
      x.batchNumber ≤ 65535 ∧ x.usableHeads ≤ 4 ∧ (∀ n, x.highest = some n → n ≤ 3)
        ∧ (∀ k, x.milkClaim = some k ∨ x.airClaim = some k → claimFits k)
    (∀ x, fits x → parseStatus (body x) = some x)
      ∧ (∀ bytes x, parseStatus bytes = some x → fits x ∧ bytes = body x)
      ∧ ∀ bytes : List Byte, 11 ≤ bytes.length →
          let b := fun i => (bytes.getD i 0).toNat
          let w := fun i => 256 * b i + b (i + 1)
          let named := if b 10 = 0 then 0 else if b 10 = 3 then 2 else 1
          let badClaim := fun i => 3 < b i ∨ 1 < b (i + 1) ∨ w (i + 3) = 0 ∨ 4000 < w (i + 3) ∨ w (i + 3) < w (i + 5)
          parseStatus bytes = none ↔
            b 0 = 0 ∨ 2 < b 0 ∨ b 1 = 0 ∨ 2 < b 1 ∨ 6 < b 4 ∨ 1 < b 5 ∨ 2 < b 6 ∨ 2 < b 7 ∨ 4 < b 8
              ∨ (3 < b 9 ∧ b 9 ≠ 255) ∨ 3 < b 10 ∨ bytes.length ≠ 11 + 7 * named
              ∨ (1 ≤ named ∧ badClaim 11) ∨ (named = 2 ∧ badClaim 18)
  )

/-- A record falls SILENT at the peer timeout and is removed at 60 s, and a changed contribution reckons its pool. A
LIVE record whose heard age reaches the peer timeout becomes SILENT and loses its claims, and nothing else of it
changes; no other record changes. Records whose age has reached 60 s are removed, and the removal of a SILENT record
reckons nothing. Before its time neither command changes anything. A record contributes its claim and band in a pool
while it is LIVE, and an absent claim and NORMAL when it is SILENT or there is none. A pool is reckoned once, on the
table that includes the change, exactly when the record's contribution to it changed, at a timeout, at the removal
of a record and at a frame (PeerFrames). It rests on log entry 4 (a command whose event cannot occur changes
nothing). [02_the_peer_table.md 2.4 Ageing; 02_the_peer_table.md 2.5 The view the Share Unit reckons on] -/
def Obligations.PeersAge : Prop :=
  (
    ∀ (c : RunConfig) (s : State) (n : Nat), s.config = some c →
      (∀ r, findPeer n s.peers.records = some r → r.live = true → c.peerTimeout * 1000 ≤ r.ageMs →
        ∃ t, exec (.peerTimeout n) s = .next t
          ∧ findPeer n t.peers.records = some
              { r with live := false, reported := { r.reported with milkClaim := none, airClaim := none } }
          ∧ (∀ m, m ≠ n → findPeer m t.peers.records = findPeer m s.peers.records)
          ∧ t.peers.malformed = s.peers.malformed ∧ OnlyChanges (.peers :: Part.ofPools) s t)
      ∧ (∃ t, exec (.peerTimeout n) s = .next t ∧ t = noteStatus s (changePeers c n t.peers s))
      ∧ (let kept := s.peers.records.filter fun x => !(x.number == n && decide (60000 ≤ x.ageMs))
         exec (.peerRecordRemoval n) s
          = .next (noteStatus s (changePeers c n { s.peers with records := kept } s)))
      ∧ ((∀ r ∈ s.peers.records, r.number = n → r.live = false ∨ r.ageMs < c.peerTimeout * 1000) →
          exec (.peerTimeout n) s = .next s)
      ∧ (∀ r, findPeer n s.peers.records = some r → r.live = false →
          (∀ x ∈ s.peers.records, x.number = n → 60000 ≤ x.ageMs) →
          exec (.peerRecordRemoval n) s = .next { s with peers := { s.peers with
            records := s.peers.records.filter fun x => x.number ≠ n } })
      ∧ ((∀ x ∈ s.peers.records, x.number = n → x.ageMs < 60000) → exec (.peerRecordRemoval n) s = .next s)
  )
  ∧ (
    (∀ (p : Pool) (r : PeerRecord), contribution p none = (none, .normal)
        ∧ (r.live = false → contribution p (some r) = (none, .normal))
        ∧ (r.live = true → contribution p (some r) = (r.reported.claim p, r.reported.band p)))
      ∧ ∀ (c : RunConfig) (n : Nat) (x : PeerTable) (s : State),
        let before := findPeer n s.peers.records
        let after := findPeer n x.records
        let same := fun p : Pool => contribution p before = contribution p after
        (same .milk → same .air → changePeers c n x s = { s with peers := x })
          ∧ (¬ same .milk → same .air → changePeers c n x s = reckon c .milk { s with peers := x })
          ∧ (same .milk → ¬ same .air → changePeers c n x s = reckon c .air { s with peers := x })
          ∧ (¬ same .milk → ¬ same .air → changePeers c n x s = reckon c .air (reckon c .milk { s with peers := x }))
  )

/-- A sample of the taps moves each band as its runs say; The runs of a tap sample. Every 100 ms each tap is
sampled. A raw reading of 0 or 4095 is a sensor sample, any other stands for (r × FS) div 4095 kPa. The third sensor
sample in a row makes an undegraded tap degraded and its band LOW, with HEADER_SENSOR pending; the third good sample
in a row ends a degraded judgement in the band it had; else the band moves as Table 3-2 says, and a move into
STARVED leaves the pool's STARVED kind pending. A band that moves, by its runs or by degradation, has all four runs
at 0 and its pool reckoned at once on the new band: d, E and the other last figures, and the grant, which is handed
to its consumer. Where the band stays, the runs are those of the sample and the figures and the grant stand. The own
claims are kept, but for a MILK claim that the hold of a level-3 raise drops, with its grant. A good sample adds
one, to at most 3, to each of the four runs whose condition it meets and sets the others to 0; a sensor sample, and
any sample of a degraded tap, leaves all four at 0. The sensor run counts consecutive sensor samples and the good
run consecutive good samples while degraded. [03_header_pools_and_grant_reckoning.md 3.2 The band monitor;
03_header_pools_and_grant_reckoning.md 3.5 When the station reckons; 03_header_pools_and_grant_reckoning.md 3.7
Handing grants to the consumers] -/
def Obligations.BandSampled : Prop :=
  (
    ∀ (c : RunConfig) (s : State) (milkRaw airRaw : Raw), s.config = some c →
      ∃ t, exec (.bandSample milkRaw airRaw) s = .next t
        ∧ t.lines = { s.lines with milkTap := milkRaw, airTap := airRaw }
        ∧ OnlyChanges ([.lines, .air, .press] ++ Part.ofRaise) s t
        ∧ (t.seq.hold = s.seq.hold →
            t.fill = if t.milk.grant = s.milk.grant then s.fill else s.fill.takeGrant t.milk.grant)
        ∧ t.press.airGrant = (if t.air.grant = s.air.grant then s.press.airGrant else t.air.grant)
        ∧ ∀ p : Pool,
          let raw := match p with
            | .milk => milkRaw
            | .air => airRaw
          let old := s.pool p
          let new := t.pool p
          let x := old.sample (c.pool p) raw
          let sensor := raw = 0#12 ∨ raw = 4095#12
          let kpa := raw.toNat * (c.pool p).fullScale / 4095
          new.lastSample = (if sensor then .sensor else .kpa kpa)
            ∧ (sensor → old.degraded = false → 2 ≤ old.sensorRun →
                new.degraded = true ∧ new.band = .low ∧ isPending .headerSensor t = true)
            ∧ (¬ sensor → old.degraded = true → new.band = old.band ∧ new.degraded = decide (old.goodRun < 2))
            ∧ (sensor → old.degraded = true ∨ old.sensorRun < 2 →
                new.band = old.band ∧ new.degraded = old.degraded)
            ∧ (¬ sensor → old.degraded = false → new.degraded = false ∧ new.band = (match old.band with
                | .normal => if x.belowStarved = 3 then .starved else if x.belowLow = 3 then .low else .normal
                | .low => if x.belowStarved = 3 then .starved else if x.atLowLeave = 3 then .normal else .low
                | .starved => if x.atStarvedLeave = 3 then .low else .starved))
            ∧ (new.band = .starved → old.band ≠ .starved → isPending (starvedKind p) t = true)
            ∧ (let reckoned := (reckon c p (s.setPool p { old with band := new.band })).pool p
                let moved := new.band ≠ old.band
                let unheld := p = .air ∨ t.seq.hold = s.seq.hold
                (moved → new.belowLow = 0 ∧ new.atLowLeave = 0 ∧ new.belowStarved = 0 ∧ new.atStarvedLeave = 0
                    ∧ new.last = reckoned.last ∧ (unheld → new.grant = reckoned.grant)
                    ∧ (new.grant = reckoned.grant ∨ (new.own = none ∧ new.grant = 0)))
                  ∧ (¬ moved → new.belowLow = x.belowLow ∧ new.atLowLeave = x.atLowLeave
                    ∧ new.belowStarved = x.belowStarved ∧ new.atStarvedLeave = x.atStarvedLeave
                    ∧ new.last = old.last ∧ (unheld → new.grant = old.grant)))
            ∧ (p = .air ∨ t.seq.hold = s.seq.hold → new.own = old.own) ∧ (new.own = old.own ∨ new.own = none)
  )
  ∧ (
    ∀ (c : PoolSettings) (raw : Raw) (ps : PoolState),
      let x := ps.sample c raw
      let sensor := raw = 0#12 ∨ raw = 4095#12
      let kpa := raw.toNat * c.fullScale / 4095
      let none4 := x.belowLow = 0 ∧ x.atLowLeave = 0 ∧ x.belowStarved = 0 ∧ x.atStarvedLeave = 0
      (sensor → none4 ∧ x.sensorRun = min 3 (ps.sensorRun + 1) ∧ x.goodRun = 0)
        ∧ (¬ sensor → ps.degraded = true → none4 ∧ x.sensorRun = 0 ∧ x.goodRun = min 3 (ps.goodRun + 1))
        ∧ (¬ sensor → ps.degraded = false → x.sensorRun = 0 ∧ x.goodRun = 0
            ∧ x.belowLow = (if kpa < c.lowEnter then min 3 (ps.belowLow + 1) else 0)
            ∧ x.atLowLeave = (if c.lowLeave ≤ kpa then min 3 (ps.atLowLeave + 1) else 0)
            ∧ x.belowStarved = (if kpa < c.starvedEnter then min 3 (ps.belowStarved + 1) else 0)
            ∧ x.atStarvedLeave = (if c.starvedLeave ≤ kpa then min 3 (ps.atStarvedLeave + 1) else 0))
        ∧ x.band = ps.band ∧ x.degraded = ps.degraded ∧ x.own = ps.own ∧ x.carried = ps.carried ∧ x.grant = ps.grant
        ∧ x.last = ps.last
  )

/-- A band change, a tap that becomes degraded and the end of a degraded judgement. A band moved by its runs takes its
new value with all four runs at 0, the pool is reckoned, and an entry into STARVED leaves its kind pending. A tap
whose sensor run is 3 while the mark is clear becomes degraded and LOW, with HEADER_SENSOR pending. A good run of 3
clears the mark with all four runs at 0 and leaves the band. Where the condition does not hold nothing changes. It
rests on log entries 4 (a command whose event cannot occur changes nothing), 5 (the row of a follow-on event makes
the check of the event that brings it). [03_header_pools_and_grant_reckoning.md 3.2 The band monitor] -/
def Obligations.BandEvents : Prop :=
  ∀ (c : RunConfig) (s : State) (p : Pool), s.config = some c →
    let runsClear := fun x : PoolState =>
      x.belowLow = 0 ∧ x.atLowLeave = 0 ∧ x.belowStarved = 0 ∧ x.atStarvedLeave = 0
    (∀ b, nextBand (s.pool p) = some b →
      ∃ t, exec (.bandChange p) s = .next t ∧ (t.pool p).band = b ∧ runsClear (t.pool p)
        ∧ (t.pool p).last.derate = derate b p s.peers.records
        ∧ (b = .starved → isPending (starvedKind p) t = true)
        ∧ OnlyChanges (Part.ofPool p ++ Part.ofRaise) s t)
    ∧ (nextBand (s.pool p) = none → exec (.bandChange p) s = .next s)
    ∧ ((s.pool p).degraded = false → (s.pool p).sensorRun = 3 →
        ∃ t, exec (.tapDegraded p) s = .next t ∧ (t.pool p).degraded = true ∧ (t.pool p).band = .low
          ∧ runsClear (t.pool p) ∧ isPending .headerSensor t = true
          ∧ OnlyChanges (Part.ofPool p ++ Part.ofRaise) s t)
    ∧ ((s.pool p).degraded = true ∨ (s.pool p).sensorRun ≠ 3 → exec (.tapDegraded p) s = .next s)
    ∧ ((s.pool p).degraded = true → (s.pool p).goodRun = 3 →
        exec (.degradedEnd p) s = .next (s.setPool p { s.pool p with
          degraded := false, goodRun := 0, belowLow := 0, atLowLeave := 0, belowStarved := 0, atStarvedLeave := 0 }))
    ∧ ((s.pool p).degraded = false ∨ (s.pool p).goodRun ≠ 3 → exec (.degradedEnd p) s = .next s)

/-- Every reckoning works on the derated capacity and ranks its candidates by the key of Table 3-3. At each reckoning d
is 0 with the own band STARVED, 6 with it LOW or with any LIVE peer reporting LOW or STARVED for the pool, and 8
otherwise; E is (C × d) div 8, and both are kept in the last-reckoning figures. With C = 0 the own grant is 0. Over
candidates with distinct station numbers, the ranking is a rearrangement of them in which each stands before another
by the key of Table 3-3; it is the only such one; and the own rank is the 1-based position of the own candidate in
it. [R40; R51] -/
def Obligations.CapacityAndRanking : Prop :=
  (
    ∀ (c : RunConfig) (p : Pool) (s : State),
      let new := (reckon c p s).pool p
      let peerLow := ∃ r ∈ s.peers.records, r.live = true ∧ (r.reported.band p = .low ∨ r.reported.band p = .starved)
      ((s.pool p).band = .starved → new.last.derate = 0 ∧ new.last.effective = 0)
        ∧ ((s.pool p).band = .low ∨ ((s.pool p).band = .normal ∧ peerLow) →
            new.last.derate = 6 ∧ new.last.effective = (c.pool p).capacity * 6 / 8)
        ∧ ((s.pool p).band = .normal → ¬ peerLow →
            new.last.derate = 8 ∧ new.last.effective = (c.pool p).capacity)
        ∧ ((c.pool p).capacity = 0 → new.last.effective = 0 ∧ new.grant = 0)
  )
  ∧ (
    let first := fun a b : Candidate =>
      b.claim.level < a.claim.level ∨ (a.claim.level = b.claim.level
        ∧ ((a.claim.holding = true ∧ b.claim.holding = false) ∨ (a.claim.holding = b.claim.holding
          ∧ (b.claim.waited < a.claim.waited ∨ (a.claim.waited = b.claim.waited ∧ a.number < b.number)))))
    ∀ cs : List Candidate, (cs.map Candidate.number).Nodup →
      (ranked cs).Perm cs ∧ (ranked cs).Pairwise first
        ∧ (∀ m : List Candidate, m.Perm cs → m.Pairwise first → m = ranked cs)
        ∧ (∀ own e n c, (ranked cs)[n]? = some c → c.number = own → (walk own 1 e (ranked cs)).rank = n + 1)
  )

/-- The walk hands each candidate what remains, in rank order. The remainder starts at E and is reduced by each
candidate's grant. At the own turn the grant is the request if the remainder reaches it, else the remainder if it is
above 0 and reaches the floor, else 0; it is at most E. [03_header_pools_and_grant_reckoning.md 3.6 The walk] -/
def Obligations.WalkTurns : Prop :=
  ∀ (own e : Nat) (ahead behind : List Candidate) (c : Candidate),
    (∀ x ∈ ahead, x.number ≠ own) → c.number = own →
    let r := ahead.foldl (fun r x => r - turnGrant r x.claim) e
    let g := if c.claim.request ≤ r then c.claim.request
      else if c.claim.floor ≤ r ∧ 0 < r then r else 0
    walk own 1 e (ahead ++ c :: behind) = { rank := ahead.length + 1, grant := g, remainder := r - g }
      ∧ g ≤ r ∧ r ≤ e

/-- The once-a-second reckoning of both pools. Outside READY, or without an own or a carried claim, the grant is 0
and the figures are d, E, rank 0, candidates 0 and remainder E. Else the walk runs over the carried claim and the
claims of the LIVE records of peers in READY, not of those in LISTEN, the own grant is the lesser of its turn's
grant and the present request, and the figures are kept. A changed grant is handed to its consumer and an equal one
is not: a MILK grant below the flow command becomes the command at once, one of 0 with the duty and the no-pulse
time 0 too, and one at or above it leaves the command and the duty as they are. Nothing else changes. A reckoning of
one pool does that pool's part alone. It rests on log entry 37 (peers in LISTEN).
[03_header_pools_and_grant_reckoning.md 3.5 When the station reckons; 03_header_pools_and_grant_reckoning.md 3.6 The
walk; 03_header_pools_and_grant_reckoning.md 3.7 Handing grants to the consumers; 05_vat_filling_and_dosing.md 5.3
FLOW; 05_vat_filling_and_dosing.md 5.5 Faults during the fill] -/
def Obligations.ReckoningOfAPool : Prop :=
  (
  ∀ (c : RunConfig) (s : State), s.config = some c →
    ∃ t, exec .onceASecondReckoning s = .next t ∧ OnlyChanges Part.ofPools s t
      ∧ t.fill = (if t.milk.grant = s.milk.grant then s.fill else s.fill.takeGrant t.milk.grant)
      ∧ t.press = { s.press with airGrant := if t.air.grant = s.air.grant then s.press.airGrant else t.air.grant }
      ∧ ∀ p : Pool,
        let d := derate (s.pool p).band p s.peers.records
        let e := (c.pool p).capacity * d / 8
        (s.start.mode ≠ .ready ∨ (s.pool p).own = none ∨ (s.pool p).carried = none →
          t.pool p = { s.pool p with
            grant := 0, last := { derate := d, effective := e, rank := 0, candidates := 0, remainder := e } })
        ∧ (∀ own carried, s.start.mode = .ready → (s.pool p).own = some own → (s.pool p).carried = some carried →
            let others := s.peers.records.filterMap fun r =>
              if r.live = true ∧ r.reported.ready = true then
                (match p with
                  | .milk => r.reported.milkClaim
                  | .air => r.reported.airClaim).map fun k => ({ number := r.number, claim := k } : Candidate)
              else none
            let cs := ranked ({ number := c.stationNumber, claim := carried } :: others)
            let turn := walk c.stationNumber 1 e cs
            t.pool p = { s.pool p with
              grant := min turn.grant own.request
              last := { derate := d, effective := e, rank := turn.rank, candidates := cs.length,
                        remainder := turn.remainder } })
        ∧ (reckon c p s).pool p = t.pool p
        ∧ (reckon c p s).fill = (if p = .milk then t.fill else s.fill)
        ∧ (reckon c p s).press = (if p = .air then t.press else s.press)
        ∧ OnlyChanges (Part.ofPool p) s (reckon c p s)
  )
  ∧ (
    ∀ (f : FillState) (g : Nat),
      (f.qCmd ≤ g → f.takeGrant g = { f with grant := g })
        ∧ (g < f.qCmd → 0 < g → f.takeGrant g = { f with grant := g, qCmd := g })
        ∧ (0 < f.qCmd → f.takeGrant 0 = { f with grant := 0, qCmd := 0, duty := 0, noPulse := 0 })
  )

/-- The own claim: a consumer's figures, and its waited steps. A request of 0 drops the claim and takes the grant to 0;
a request with no claim raises one with waited steps 0; with a claim it changes the figures and keeps the waited
steps; a floor above the request is taken as the request. A request below the grant cuts the grant to it, and the
changed grant is handed to the consumer. The figures of the last reckoning, the band and the other pool stay. At
each whole 10 s of standing the waited steps of the own claim advance by one and stop at 255; nothing else of the
claim or the station changes. Before it nothing changes. It rests on log entry 4 (a command whose event cannot occur
changes nothing). [03_header_pools_and_grant_reckoning.md 3.4 The own claims; 03_header_pools_and_grant_reckoning.md
3.7 Handing grants to the consumers] -/
def Obligations.ClaimsPresented : Prop :=
  (
    ∀ (p : Pool) (level request floor : Nat) (s : State),
      let t := presentClaim p level request floor s
      (t.pool p).grant = min (s.pool p).grant request
        ∧ (request = 0 → (t.pool p).own = none)
        ∧ (0 < request → (s.pool p).own = none → (t.pool p).own = some
            { level := level, request := request, floor := min floor request, waited := 0, stepMs := 0 })
        ∧ (∀ own, 0 < request → (s.pool p).own = some own → (t.pool p).own = some
            { own with level := level, request := request, floor := min floor request })
        ∧ (t.pool p).last = (s.pool p).last ∧ (t.pool p).band = (s.pool p).band ∧ (t.pool p).carried = (s.pool p).carried
        ∧ (p = .milk → s.fill.grant = s.milk.grant → t.fill.grant = t.milk.grant)
        ∧ (p = .milk → s.milk.grant ≤ request → t.fill = s.fill)
        ∧ (p = .air → s.press.airGrant = s.air.grant → t.press.airGrant = t.air.grant)
        ∧ (p = .air → t.press.heads = s.press.heads)
        ∧ OnlyChanges (Part.ofPool p) s t
  )
  ∧ (
    ∀ (c : RunConfig) (s : State) (p : Pool) (own : OwnClaim), s.config = some c → (s.pool p).own = some own →
      (10000 ≤ own.stepMs →
        ∃ t, exec (.waitedStepAdvance p) s = .next t
          ∧ t.pool p = { s.pool p with
              own := some { own with waited := min 255 (own.waited + 1), stepMs := own.stepMs - 10000 } }
          ∧ OnlyChanges [match p with
              | .milk => .milk
              | .air => .air] s t)
      ∧ (own.stepMs < 10000 → exec (.waitedStepAdvance p) s = .next s)
  )

/-- START is accepted under the conditions of Table 4-2, checked in their order. Where the line is served, START is
answered with the verdict of the first condition of Table 4-2 that fails, and changes nothing but the queue that
takes the REPLY (none in MUTE); when every condition holds the batch opens and the verdict is ACCEPTED. [R64] -/
def Obligations.StartVerdict : Prop :=
  ∀ (c : RunConfig) (s : State) (sender arg tag : Byte), s.config = some c →
    s.start.mode = .listen ∨ s.start.mode = .ready ∨ s.start.mode = .mute →
    let answer := fun (x : State) (v : Verdict) =>
      offer x { kind := .reply, dest := sender.toNat, body := [1#8, tag, byte v.code] }
    let refused := fun v => exec (.orderStart sender arg tag) s = .next (answer s v)
    let holdsRecipe := fun r => c.recipe arg.toNat = some r ∧ r.isPresent = true
    (s.start.mode ≠ .ready → refused .refusedListen)
      ∧ (s.start.mode = .ready → s.seq.step ≠ .idle → refused .refusedState)
      ∧ (s.start.mode = .ready → s.seq.step = .idle → s.lines.estop = true → refused .refusedState)
      ∧ (s.start.mode = .ready → s.seq.step = .idle → s.lines.estop = false → (¬ ∃ r, holdsRecipe r) →
          refused .refusedSlot)
      ∧ (∀ r, s.start.mode = .ready → s.seq.step = .idle → s.lines.estop = false → holdsRecipe r →
          usableHeads s < r.minHeads → refused .refusedHeads)
      ∧ (∀ r, s.start.mode = .ready → s.seq.step = .idle → s.lines.estop = false → holdsRecipe r →
          r.minHeads ≤ usableHeads s →
          exec (.orderStart sender arg tag) s
            = .next (noteStatus s (answer (openBatch c arg.toNat r s) .accepted)))

/-- Opening a batch. The next number is issued (1 after 65535), a record opens at its opening values in FILLING /
FLOW, LINE and ALERT stand in the hold-reason set as the line and the pending alerts have them, the checkpoint
carries the record, and the fill begins: totaliser 0, counting span open, its timers and command 0, and unless held
the MILK claim of the recipe. A cover volume of 0 requests the fill stir at its speed on an unheld entry into FLOW;
the drive takes it as DriveEvents says, and with DRIVE FAULT active it faults, with the kind pending, FILLING as the
first fault step and a KNIFE hold that drops the claim and the job. A target that is met at once, which WRITE
SETTINGS refuses, leads FLOW, held or not, on to SETTLE without the claim. It rests on log entries 51 (fields
outside their ranges), 53 (the cover before the target), 59 (the checkpoint carries the record of the last change
that asked for a write). [04_the_batch_sequencer.md 4.3 Orders and lines; 04_the_batch_sequencer.md 4.9 The batch
record; 05_vat_filling_and_dosing.md 5.3 FLOW; 05_vat_filling_and_dosing.md 5.4 Closing at the target;
04_the_batch_sequencer.md 4.2 The hold-reason set; 07_knife_drive.md 7.4 Turning and watching] -/
def Obligations.BatchOpens : Prop :=
  ∀ (c : RunConfig) (slot : Nat) (r : Recipe) (s : State), s.seq.counter ≤ 65535 → s.milk.own = none →
    let t := openBatch c slot r s
    let n := if s.seq.counter = 65535 then 1 else s.seq.counter + 1
    let alert := levelThreePending s
    let startsHeld := s.lines.hold || alert
    let settles := decide (r.target ≤ r.allowance)
    let phase : Phase := if settles then .settle else .flow
    let record := fun fault : Option Step => ({
        number := n, slot := slot, startTime := stationSeconds s, step := .filling, phase := phase,
        stepStart := stationSeconds s, filled := 0, overrun := 0,
        flocTime := none, cutTime := 0, cutReason := .predicted, lateness := 0, made := 0, untracked := 0, pressed := 0,
        flagged := 0, outcome := .running, firstFault := fault, laneClosed := false } : BatchRecord)
    let opens := fun (now saved : Option Step) (hold : HoldSet) =>
      t.seq = { s.seq with step := .filling, phase := phase, counter := n, current := .opened (record now), hold := hold }
        ∧ t.store.checkpoint.latest = { lastNumber := n, record := some (record saved) }
        ∧ t.store.history = s.store.history
        ∧ t.fill.totaliser = 0 ∧ t.fill.spanOpen = true ∧ t.fill.qCmd = 0 ∧ t.fill.duty = 0 ∧ t.fill.noPulse = 0
        ∧ t.fill.flowElapsed = 0 ∧ t.fill.slowRaised = false ∧ t.fill.settle = 0 ∧ t.fill.dosed = 0
    let standing : HoldSet := { order := false, line := s.lines.hold, alert := alert, meter := false, knife := false }
    let first : Option Step := if alert then some .filling else none
    let claimed :=
      (settles = true → t.milk.grant = 0)
        ∧ t.milk.own = (if startsHeld = true ∨ settles = true ∨ r.fillRate = 0 then none else some
          { level := r.fillLevel, request := r.fillRate, floor := min r.fillFloor r.fillRate, waited := 0, stepMs := 0 })
    let covers := startsHeld = false ∧ 0 < r.fillStir ∧ r.cover = 0 ∧ s.fill.stirJob = false
    (¬ covers → opens first first standing ∧ claimed ∧ t.fill.stirJob = s.fill.stirJob
      ∧ OnlyChanges [.seq, .store, .fill, .milk] s t)
    ∧ (covers → s.lines.driveFault = false → opens none none standing ∧ claimed ∧ t.fill.stirJob = true
        ∧ t.knife.job = some { kind := .fillStir, speed := r.fillStir }
        ∧ t.knife = (requestJob c { kind := .fillStir, speed := r.fillStir } s).knife
        ∧ OnlyChanges [.seq, .store, .fill, .milk, .knife] s t)
    ∧ (covers → s.lines.driveFault = true →
        opens (some .filling) (if settles then some .filling else none) { standing with
          alert := t.seq.hold.alert, knife := true }
        ∧ t.milk.own = none ∧ t.milk.grant = 0 ∧ t.fill.stirJob = false
        ∧ t.knife.state = .stopped ∧ t.knife.job = none ∧ t.knife.run = false ∧ t.knife.speed = 0 ∧ t.knife.offMs = 0
        ∧ isPending .knifeDriveFault t = true
        ∧ (isPending .knifeDriveFault s = false → ∃ a ∈ t.alerts.pending, a.kind = .knifeDriveFault ∧ a.step = .filling
            ∧ a.batchNumber = n ∧ a.detail = s.knife.speed)
        ∧ OnlyChanges (.store :: Part.ofRaise) s t)

/-- The START line acts as a START order, and the HOLD line brings LINE into the set and takes it out. With a local
slot, an edge of the sensitivity set opens the batch under the conditions of Table 4-2, with no REPLY, and else
counts a refused start; with local slot 0, or an edge not of the set, only the line's level changes. Going active,
the line adds LINE (HeldValues says what that does); active already, it changes nothing. Going inactive, it takes
LINE out; a set that empties releases the step, and another reason keeps the vat held. It rests on log entries 4 (a
command whose event cannot occur changes nothing), 63 (a STATUS content that changes and changes back inside one
event marks no change). [04_the_batch_sequencer.md 4.3 Orders and lines; 04_the_batch_sequencer.md 4.2 The
hold-reason set] -/
def Obligations.StartAndHoldLines : Prop :=
  (
    ∀ (c : RunConfig) (s : State) (rising : Bool), s.config = some c →
      let s' := { s with lines := { s.lines with start := rising } }
      (∀ r, c.localSlot ≠ 0 → countsEdge c.lines.start rising = true → startCheck c c.localSlot s' = .ok r →
        exec (.startLineEdge rising) s = .next (noteStatus s (openBatch c c.localSlot r s')))
      ∧ (∀ v, c.localSlot ≠ 0 → countsEdge c.lines.start rising = true → startCheck c c.localSlot s' = .error v →
          exec (.startLineEdge rising) s = .next { s' with seq := { s.seq with
            refusedStarts := satAdd 65535 s.seq.refusedStarts 1 } })
      ∧ (c.localSlot = 0 ∨ countsEdge c.lines.start rising = false → exec (.startLineEdge rising) s = .next s')
  )
  ∧ (
    ∀ (c : RunConfig) (s : State), s.config = some c →
      let on := { s with lines := { s.lines with hold := true } }
      let off := { s with lines := { s.lines with hold := false },
                          seq := { s.seq with hold := { s.seq.hold with line := false } } }
      (s.lines.hold = false → exec .holdLineActive s = .next (noteStatus s (addReason .line on)))
        ∧ (s.lines.hold = true → exec .holdLineActive s = .next s)
        ∧ (held s = false ∨ held off = true → exec .holdLineInactive s = .next (noteStatus s off))
        ∧ (held s = true → held off = false → exec .holdLineInactive s = .next (noteStatus s (release c off)))
  )

/-- HOLD adds ORDER in a holdable step, and CLEAR takes a stopped vat to IDLE. In FILLING, SETTING, CUTTING, STIRRING
and MOULDING the order is accepted, held or not, and ORDER stands in the set; with ORDER already there nothing but
the queue changes. In IDLE and STOPPED it is refused with REFUSED_STATE and changes nothing. A room-wide HOLD is
acted on alike, with no REPLY. In STOPPED with the ESTOP line inactive, CLEAR is accepted: the step is IDLE, no
batch is current and STATUS carries batch number 0; the history, the lane's queue and the heads stay as they were.
In every other step, and with the line active, it is refused with REFUSED_STATE and changes nothing. [R67; R71] -/
def Obligations.HoldAndClearOrders : Prop :=
  (
    ∀ (c : RunConfig) (s : State) (all : Bool) (sender arg tag : Byte), s.config = some c →
      s.start.mode = .listen ∨ s.start.mode = .ready ∨ s.start.mode = .mute →
      let answer := fun (x : State) (v : Verdict) =>
        if all then x else offer x { kind := .reply, dest := sender.toNat, body := [2#8, tag, byte v.code] }
      (s.seq.step = .idle ∨ s.seq.step = .stopped →
        exec (.orderHold all sender arg tag) s = .next (answer s .refusedState))
      ∧ (s.seq.step ≠ .idle → s.seq.step ≠ .stopped →
          ∃ t, exec (.orderHold all sender arg tag) s = .next t
            ∧ t.seq.hold = { s.seq.hold with order := true } ∧ t.seq.step = s.seq.step ∧ t.seq.phase = s.seq.phase
            ∧ t.link.queue = (answer s .accepted).link.queue
            ∧ OnlyChanges [.seq, .milk, .fill, .coag, .knife, .link] s t)
      ∧ (s.seq.step ≠ .idle → s.seq.step ≠ .stopped → s.seq.hold.order = true →
          exec (.orderHold all sender arg tag) s = .next (answer s .accepted))
  )
  ∧ (
    ∀ (c : RunConfig) (s : State) (sender arg tag : Byte), s.config = some c →
      s.start.mode = .listen ∨ s.start.mode = .ready ∨ s.start.mode = .mute →
      let answer := fun (x : State) (v : Verdict) =>
        offer x { kind := .reply, dest := sender.toNat, body := [6#8, tag, byte v.code] }
      let cleared := { s with seq := { s.seq with step := .idle, phase := .none, hold := HoldSet.clear, current := .none } }
      (s.seq.step = .stopped → s.lines.estop = false →
        exec (.orderClear sender arg tag) s = .next (noteStatus s (answer cleared .accepted))
          ∧ (statusContents (answer cleared .accepted)).batchNumber = 0
          ∧ OnlyChanges [.seq, .link] s (answer cleared .accepted))
      ∧ (s.seq.step ≠ .stopped ∨ s.lines.estop = true →
          exec (.orderClear sender arg tag) s = .next (answer s .refusedState))
  )

/-- A reason that enters an empty set applies the held values of the step. In a holdable step a new reason joins the
set, and ALERT, METER and KNIFE record the first fault step. When the set was empty: FILLING withdraws the fill
stir, in FLOW drops the MILK claim, the grant, the flow command and the duty, in DOSE turns the pump off; SETTING
withdraws the mix; CUTTING and STIRRING their job; MOULDING turns OUTLET off and requests FILLER HOLD. Timers and
the totaliser stand. In IDLE and STOPPED, or with the reason present, nothing changes. [04_the_batch_sequencer.md
4.2 The hold-reason set; 04_the_batch_sequencer.md 4.5 FILLING held; 04_the_batch_sequencer.md 4.6 SETTING held;
04_the_batch_sequencer.md 4.7 CUTTING and STIRRING held; 04_the_batch_sequencer.md 4.8 MOULDING held] -/
def Obligations.HeldValues : Prop :=
  ∀ (r : Reason) (s : State),
    (s.seq.step.holdable = false ∨ s.seq.hold.has r = true → addReason r s = s)
    ∧ (s.seq.step.holdable = true → s.seq.hold.has r = false →
      let t := addReason r s
      t.seq.hold = s.seq.hold.put r true ∧ t.seq.step = s.seq.step ∧ t.seq.phase = s.seq.phase
        ∧ openRecord t = (if r.isFault then (openRecord s).map fun b =>
            { b with firstFault := b.firstFault.or (some s.seq.step) } else openRecord s)
        ∧ (held s = true → OnlyChanges [.seq] s t ∧ t.seq.outlet = s.seq.outlet)
        ∧ (held s = false → KnifeSound s →
          (s.seq.step = .filling → t.fill.stirJob = false ∧ t.fill.totaliser = s.fill.totaliser
              ∧ t.fill.flowElapsed = s.fill.flowElapsed ∧ t.fill.settle = s.fill.settle ∧ t.fill.dosed = s.fill.dosed)
          ∧ (s.seq.step = .filling → s.seq.phase = .flow →
              t.milk.own = none ∧ t.milk.grant = 0 ∧ t.fill.qCmd = 0 ∧ t.fill.duty = 0)
          ∧ (s.seq.step = .filling → s.seq.phase = .dose → t.fill.dosePump = false)
          ∧ (s.seq.step = .setting → t.coag = { s.coag with mixJob := false })
          ∧ (∀ j, s.knife.job = some j →
              (s.seq.step = .filling ∧ j.kind = .fillStir) ∨ (s.seq.step = .setting ∧ j.kind = .mix)
                ∨ ((s.seq.step = .cutting ∨ s.seq.step = .stirring) ∧ (j.kind = .cut ∨ j.kind = .stir)) →
              t.knife.job = none ∧ t.knife.run = false ∧ t.knife.speed = 0)
          ∧ (s.seq.step = .moulding → t.seq.outlet = false ∧ t.seq.fillerRequest = true))
        ∧ OnlyChanges [.seq, .milk, .fill, .coag, .knife] s t)

/-- RESUME removes ORDER, METER and KNIFE, and ALERT when no level-3 kind is pending. Accepted while the vat is
held, refused with REFUSED_STATE otherwise. LINE stays; ALERT stays while a level-3 kind is pending. A set that
empties releases the step, and one that does not leaves the vat held and nothing else changed. A room-wide RESUME
has no REPLY. It rests on log entry 63 (a STATUS content that changes and changes back inside one event marks no
change). [04_the_batch_sequencer.md 4.3 Orders and lines] -/
def Obligations.ResumeOrder : Prop :=
  ∀ (c : RunConfig) (s : State) (all : Bool) (sender arg tag : Byte), s.config = some c →
    s.start.mode = .listen ∨ s.start.mode = .ready ∨ s.start.mode = .mute →
    let answer := fun (x : State) (v : Verdict) =>
      if all then x else offer x { kind := .reply, dest := sender.toNat, body := [3#8, tag, byte v.code] }
    let left : HoldSet := { order := false, line := s.seq.hold.line, alert := s.seq.hold.alert && levelThreePending s,
                            meter := false, knife := false }
    let s' := { s with seq := { s.seq with hold := left } }
    (held s = false → exec (.orderResume all sender arg tag) s = .next (answer s .refusedState))
    ∧ (held s = true → left.held = true →
        exec (.orderResume all sender arg tag) s = .next (noteStatus s (answer s' .accepted)))
    ∧ (held s = true → left.held = false →
        exec (.orderResume all sender arg tag) s = .next (noteStatus s (answer (release c s') .accepted)))

/-- A released step takes up its work where it stood. FILLING / FLOW raises the MILK claim anew with waited steps 0 and
DOSE turns the pump on (cover volume not passed); SETTING / MIX requests its mix, QUIET goes on, and a cut that
waited begins CUTTING with its lateness in the record; CUTTING requests its cut and STIRRING its stir, past its
dwell at the speed of the present moment; past the cover volume FILLING requests its fill stir, and a FLOW at its
target goes on to SETTLE. The drive takes each request as DriveEvents says; with DRIVE FAULT active it faults, with
the kind pending, and the KNIFE hold withdraws the job. MOULDING turns OUTLET on and withdraws the FILLER HOLD
request. It rests on log entry 26 (the second at which a sample completes, and a second that has fallen).
[04_the_batch_sequencer.md 4.5 FILLING held; 04_the_batch_sequencer.md 4.6 SETTING held; 04_the_batch_sequencer.md
4.7 CUTTING and STIRRING held; 04_the_batch_sequencer.md 4.8 MOULDING held; 07_knife_drive.md 7.3 Starting,
reversing and replacing; 07_knife_drive.md 7.4 Turning and watching] -/
def Obligations.Released : Prop :=
  ∀ (c : RunConfig) (s : State) (r : Recipe), batchRecipe c s = some r → held s = false →
    let t := release c s
    let now := if s.coag.secondFallen then min 65535 (s.coag.clock + 1) else s.coag.clock
    let requested := fun (kind : JobKind) (speed : Nat) => (requestJob c { kind := kind, speed := speed } s).knife
    (s.seq.step = .filling → s.seq.phase = .flow → targetReached r s = false → coverPassed r s = false →
      s.milk.own = none → 0 < r.fillRate →
      t.milk.own = some { level := r.fillLevel, request := r.fillRate, floor := min r.fillFloor r.fillRate,
                          waited := 0, stepMs := 0 }
        ∧ t.seq = s.seq ∧ t.knife = s.knife ∧ OnlyChanges [.milk, .fill] s t)
    ∧ (s.seq.step = .filling → s.seq.phase = .flow → targetReached r s = true → coverPassed r s = false →
        t.seq.step = .filling ∧ t.seq.phase = .settle ∧ t.milk.own = none ∧ t.milk.grant = 0 ∧ t.fill.qCmd = 0
          ∧ t.fill.duty = 0 ∧ t.knife = s.knife ∧ OnlyChanges [.milk, .fill, .seq, .store] s t)
    ∧ (s.seq.step = .filling → coverPassed r s = true → s.lines.driveFault = false →
        t.fill.stirJob = true ∧ t.knife = requested .fillStir r.fillStir
          ∧ t.knife.job = some { kind := .fillStir, speed := r.fillStir }
          ∧ (s.seq.phase = .flow → targetReached r s = false → s.milk.own = none → 0 < r.fillRate →
              t.milk.own.map OwnClaim.request = some r.fillRate)
          ∧ (s.seq.phase = .flow → targetReached r s = true → t.seq.phase = .settle ∧ t.milk.own = none)
          ∧ (s.seq.phase = .dose → t.fill.dosePump = true)
          ∧ OnlyChanges [.milk, .fill, .seq, .store, .knife] s t)
    ∧ (s.seq.step = .filling → s.seq.phase = .settle → coverPassed r s = false → t = s)
    ∧ (s.seq.step = .filling → s.seq.phase = .dose → coverPassed r s = false →
        t = { s with fill := { s.fill with dosePump := true } })
    ∧ (s.seq.step = .setting → s.coag.state = .mix → 0 < r.mixSpeed → s.lines.driveFault = false →
        t.coag = { s.coag with mixJob := true } ∧ t.knife.job = some { kind := .mix, speed := r.mixSpeed }
          ∧ t.knife = requested .mix r.mixSpeed ∧ OnlyChanges [.coag, .knife] s t)
    ∧ (s.seq.step = .setting → s.coag.state = .mix → r.mixSpeed = 0 → t = s)
    ∧ (s.seq.step = .setting → s.coag.state = .watch ∨ s.coag.state = .armed ∨ s.coag.state = .pending → t = s)
    ∧ (s.seq.step = .setting → s.coag.state = .due → t.seq.step = .cutting
        ∧ (s.lines.driveFault = false → t.knife.job = some { kind := .cut, speed := r.cutSpeed }
            ∧ t.knife = { requested .cut r.cutSpeed with cutElapsed := 0 })
        ∧ t.coag.state = .inactive ∧ t.coag.ticking = false
        ∧ (openRecord t).map BatchRecord.lateness = some (now - s.coag.dueAt)
        ∧ (openRecord t).map BatchRecord.cutTime = (openRecord s).map BatchRecord.cutTime)
    ∧ (s.seq.step = .cutting → s.lines.driveFault = false →
        t.knife.job = some { kind := .cut, speed := r.cutSpeed } ∧ t.knife.cutElapsed = s.knife.cutElapsed
          ∧ t.knife = requested .cut r.cutSpeed ∧ OnlyChanges [.knife] s t)
    ∧ (s.seq.step = .stirring → s.seq.phase ≠ .dwell → s.lines.driveFault = false →
        t.knife.job = some { kind := .stir, speed := stirJobSpeed r s.seq.phase s.knife.rampElapsed }
          ∧ t.knife.rampElapsed = s.knife.rampElapsed ∧ t.knife.stirElapsed = s.knife.stirElapsed
          ∧ t.knife = requested .stir 0 ∧ OnlyChanges [.knife] s t)
    ∧ (s.seq.step = .stirring → t = requestJob c { kind := .stir, speed := 0 } s)
    ∧ (s.lines.driveFault = true →
        (s.seq.step = .filling ∧ coverPassed r s = true) ∨ (s.seq.step = .setting ∧ s.coag.state = .mix ∧ 0 < r.mixSpeed)
          ∨ (s.seq.step = .setting ∧ s.coag.state = .due) ∨ s.seq.step = .cutting ∨ s.seq.step = .stirring →
        t.knife.state = .stopped ∧ t.knife.job = none ∧ t.knife.run = false ∧ t.knife.speed = 0 ∧ t.knife.offMs = 0
          ∧ t.seq.hold.knife = true ∧ (s.seq.step = .filling → t.fill.stirJob = false)
          ∧ (s.seq.step = .setting → t.coag.mixJob = false) ∧ isPending .knifeDriveFault t = true)
    ∧ (s.seq.step = .moulding → t = { s with seq := { s.seq with outlet := true, fillerRequest := false } })

/-- Stopping the vat. Every vat output takes its safe value: duty and flow command 0, the MILK claim of a fill
dropped with its grant, its no-pulse time 0, its stir request cleared and its counting span shut, DOSE PUMP off, RUN
off with no job, OUTLET off and the FILLER HOLD request released. In SETTING the monitor is INACTIVE, its set clock
stopped at the seconds counted, its mix job withdrawn and the sample in progress abandoned, and its figures stay; in
any other step it stays as it was, and outside FILLING so does the Fill Unit. The record takes the outcome, and the
step as its first fault step if it has none; the step is STOPPED with an empty hold-reason set; the record stands as
the newest of the history, closed on the lane at once when no load of it is left, and its number stays current.
Loads on the lane are not touched. It rests on log entries 24 (the lane check and the REPORT in the closing event),
26 (a second that has fallen and not been counted stays uncounted), 47 (the history write beside the checkpoint's).
[04_the_batch_sequencer.md 4.3 Orders and lines; 04_the_batch_sequencer.md 4.10 Closing a batch;
05_vat_filling_and_dosing.md 5.7 Holds, stops and resets at the Fill Unit;
06_coagulation_monitoring_and_cut_timing.md 6.6 Holds, stops and resets at the monitor] -/
def Obligations.VatStops : Prop :=
  ∀ (outcome : BatchOutcome) (s : State) (b : BatchRecord),
    FillSound s → KnifeSound s → HistorySound s → openRecord s = some b → outcome = .aborted ∨ outcome = .estop →
    let t := stopVat outcome s
    let closed : BatchRecord :=
      { b with outcome := outcome, firstFault := b.firstFault.or (some s.seq.step), step := .stopped, phase := .none,
               stepStart := if s.seq.step = .stopped then b.stepStart else stationSeconds s,
               laneClosed := b.laneClosed || b.pressed == b.made }
    t.fill.duty = 0 ∧ t.fill.qCmd = 0 ∧ t.fill.dosePump = false
      ∧ (s.seq.step = .filling → t.milk.own = none ∧ t.milk.grant = 0
          ∧ t.fill = { s.fill with
              grant := 0, qCmd := 0, duty := 0, noPulse := 0, dosePump := false, stirJob := false, spanOpen := false })
      ∧ (s.seq.step ≠ .filling → t.fill = s.fill ∧ t.milk = s.milk)
      ∧ (s.seq.step = .setting → t.coag = { s.coag with
          state := .inactive, ticking := false, secondFallen := false, mixJob := false, readings := [] })
      ∧ (s.seq.step ≠ .setting → t.coag = s.coag)
      ∧ t.knife.run = false ∧ t.knife.speed = 0 ∧ t.knife.job = none
      ∧ t.seq = { s.seq with
          step := .stopped, phase := .none, hold := HoldSet.clear, current := .closed b.number, outlet := false,
          fillerRequest := false }
      ∧ (t.store.history.getLast?.map Slot.latest) = some closed
      ∧ (b.laneClosed = false → b.pressed = b.made →
          t.link = (offer s { kind := .report, dest := 0, body := closed.reportBody }).link)
      ∧ (b.pressed ≠ b.made → t.link = s.link)
      ∧ OnlyChanges [.fill, .milk, .knife, .coag, .seq, .store, .link] s t

/-- ABORT stops the vat in a holdable step, and CUT NOW cuts in SETTING. ABORT is accepted in a holdable step, where
the vat stops with outcome ABORTED, and refused with REFUSED_STATE in IDLE and STOPPED. CUT NOW is accepted in
SETTING: the cut is at the present set-clock time, that of a second which has fallen though its SET_CLOCK_SECOND
still waits, with reason ORDERED; unheld, CUTTING begins at once with lateness 0 and its cut requested, which with
DRIVE FAULT active faults the drive, with the kind pending and a KNIFE hold that withdraws the job; a mix that runs
is stopped, and the drive goes into its dwell, or, with a reverse dwell of 0, outside R131's range, starts the cut;
held, the cut waits. The REPLY of ACCEPTED is offered, after the ALERT frame of a fault that was not pending. In
every other step CUT NOW is refused and changes nothing. It rests on log entries 24 (the lane check and the REPORT
in the closing event), 26 (the second at which a sample completes, and a second that has fallen), 51 (fields outside
their ranges). [04_the_batch_sequencer.md 4.3 Orders and lines; 06_coagulation_monitoring_and_cut_timing.md 6.5 The
cut time; 07_knife_drive.md 7.3 Starting, reversing and replacing; 07_knife_drive.md 7.4 Turning and watching] -/
def Obligations.AbortAndCutNow : Prop :=
  ∀ (c : RunConfig) (s : State) (sender arg tag : Byte), s.config = some c →
    s.start.mode = .listen ∨ s.start.mode = .ready ∨ s.start.mode = .mute →
    let answer := fun (code : Byte) (x : State) (v : Verdict) =>
      offer x { kind := .reply, dest := sender.toNat, body := [code, tag, byte v.code] }
    let now := if s.coag.secondFallen then min 65535 (s.coag.clock + 1) else s.coag.clock
    (s.seq.step ≠ .idle → s.seq.step ≠ .stopped →
      exec (.orderAbort sender arg tag) s = .next (noteStatus s (answer 4#8 (stopVat .aborted s) .accepted)))
    ∧ (s.seq.step = .idle ∨ s.seq.step = .stopped →
        exec (.orderAbort sender arg tag) s = .next (answer 4#8 s .refusedState))
    ∧ (s.seq.step ≠ .setting → exec (.orderCutNow sender arg tag) s = .next (answer 5#8 s .refusedState))
    ∧ (∀ r b, s.seq.step = .setting → batchRecipe c s = some r → openRecord s = some b → held s = false →
        ∃ t, exec (.orderCutNow sender arg tag) s = .next t
          ∧ t.seq.step = .cutting ∧ t.seq.phase = .none ∧ t.coag.state = .inactive ∧ t.coag.ticking = false
          ∧ (openRecord t).map (fun x => (x.number, x.cutTime, x.cutReason, x.lateness))
              = some (b.number, now, .ordered, 0)
          ∧ t.knife.cutElapsed = 0
          ∧ (s.lines.driveFault = false → t.knife.job = some { kind := .cut, speed := r.cutSpeed }
              ∧ ((∀ j, s.knife.job = some j → j.kind ≠ .mix) →
                  t.knife = { (requestJob c { kind := .cut, speed := r.cutSpeed } s).knife with cutElapsed := 0 })
              ∧ (∀ j, s.knife.job = some j → j.kind = .mix → s.knife.state = .starting ∨ s.knife.state = .running →
                  (1 ≤ c.lines.reverseDwell → t.knife.state = .dwell ∧ t.knife.run = false ∧ t.knife.speed = 0
                      ∧ t.knife.offMs = 0 ∧ t.knife.reverse = s.knife.reverse)
                    ∧ (c.lines.reverseDwell = 0 → t.knife.state = .starting ∧ t.knife.run = true
                      ∧ t.knife.reverse = .cut ∧ t.knife.speed = r.cutSpeed ∧ t.knife.graceMs = 0))
              ∧ (∀ j, s.knife.job = some j → j.kind = .mix → s.knife.state = .dwell →
                  s.knife.offMs < c.lines.reverseDwell * 1000 →
                  t.knife.state = .dwell ∧ t.knife.continuing = false ∧ t.knife.offMs = s.knife.offMs))
          ∧ (s.lines.driveFault = true → t.knife.state = .stopped ∧ t.knife.job = none ∧ t.knife.run = false
              ∧ t.knife.speed = 0 ∧ t.knife.offMs = 0 ∧ t.seq.hold.knife = true ∧ isPending .knifeDriveFault t = true)
          ∧ (s.lines.driveFault = false ∨ isPending .knifeDriveFault s = true →
              t.link.queue = (answer 5#8 s .accepted).link.queue)
          ∧ (s.lines.driveFault = true → isPending .knifeDriveFault s = false →
              ∃ a, a ∈ t.alerts.pending ∧ a.kind = .knifeDriveFault ∧ t.link.queue
                = (answer 5#8 (offer s { kind := .alert, dest := 0, body := a.frameBody }) .accepted).link.queue)
          ∧ t.queue = s.queue ∧ t.press = s.press ∧ t.air = s.air ∧ t.peers = s.peers ∧ t.port = s.port)
    ∧ (∀ r b, s.seq.step = .setting → batchRecipe c s = some r → openRecord s = some b → held s = true →
        ∃ t, exec (.orderCutNow sender arg tag) s = .next t
          ∧ t.seq.step = .setting ∧ t.seq.hold = s.seq.hold ∧ t.coag.state = .due ∧ t.coag.dueAt = now
          ∧ openRecord t = some { b with cutTime := now, cutReason := .ordered }
          ∧ t.link.queue = (answer 5#8 s .accepted).link.queue
          ∧ OnlyChanges [.seq, .coag, .knife, .link] s t)

/-- The ESTOP line stops the vat and vents the heads. Going active, ESTOP is pending; in a holdable step the vat
stops: its outputs take their safe values, a fill's stir request is cleared and its counting span shut, in SETTING
the monitor is INACTIVE with its set clock stopped at the seconds counted, its mix job withdrawn and the sample in
progress abandoned, the record takes the outcome ESTOP and the step as its first fault step if it has none, STOPPED
is entered with no hold reason, and the record stands as the newest of the history with its number current; every
head in RAMP or HOLD vents, the loads on heads in RAMP, HOLD or VENT are flagged ESTOP, and the output of every
fitted head is FORCED_OFF; the queued loads stay. Active already, nothing changes. Going inactive it changes no
step, and FREE heads take queued loads. It rests on log entries 4 (a command whose event cannot occur changes
nothing), 24 (the lane check and the REPORT in the closing event), 26 (a second that has fallen and not been counted
stays uncounted). [04_the_batch_sequencer.md 4.3 Orders and lines; 09_press_heads.md 9.9 The guard;
09_press_heads.md 9.2 Reading pressure and driving the valve; 04_the_batch_sequencer.md 4.10 Closing a batch;
05_vat_filling_and_dosing.md 5.7 Holds, stops and resets at the Fill Unit;
06_coagulation_monitoring_and_cut_timing.md 6.6 Holds, stops and resets at the monitor] -/
def Obligations.EstopLine : Prop :=
  ∀ (c : RunConfig) (s : State), s.config = some c →
    let on := { s with lines := { s.lines with estop := true } }
    let off := { s with lines := { s.lines with estop := false } }
    let flagged := fun l : Load => { l with flags := { l.flags with estop := true } }
    (s.lines.estop = false →
      ∃ t, exec .estopLineActive s = .next t ∧ t.lines = on.lines
        ∧ isPending .estop t = true
        ∧ t.seq.step = (if s.seq.step.holdable then .stopped else s.seq.step)
        ∧ (∀ h, ((s.head h).state = .ramp ∨ (s.head h).state = .hold →
              (t.head h).state = .vent ∧ (t.head h).ventSteps = 0 ∧ (t.head h).load = (s.head h).load.map flagged)
            ∧ ((s.head h).state = .vent → (t.head h).state = .vent ∧ (t.head h).load = (s.head h).load.map flagged)
            ∧ ((s.head h).state = .free ∨ (s.head h).state = .unload ∨ (s.head h).state = .out →
              (t.head h).state = (s.head h).state ∧ (t.head h).load = (s.head h).load)
            ∧ ((s.head h).state ≠ .unfitted → (t.head h).output = .forcedOff)
            ∧ ((s.head h).state = .unfitted → t.head h = s.head h))
        ∧ (∀ b, s.seq.step.holdable = true → openRecord s = some b → FillSound s → KnifeSound s → HistorySound s →
            (t.store.history.getLast?.map Slot.latest) = some { b with
                outcome := .estop, firstFault := b.firstFault.or (some s.seq.step), step := .stopped, phase := .none,
                stepStart := stationSeconds s, laneClosed := b.laneClosed || b.pressed == b.made }
              ∧ t.seq = { s.seq with
                  step := .stopped, phase := .none, hold := HoldSet.clear, current := .closed b.number, outlet := false,
                  fillerRequest := false }
              ∧ t.fill.duty = 0 ∧ t.fill.qCmd = 0 ∧ t.fill.dosePump = false
              ∧ (s.seq.step = .filling → t.milk.own = none ∧ t.milk.grant = 0
                  ∧ t.fill = { s.fill with
                      grant := 0, qCmd := 0, duty := 0, noPulse := 0, dosePump := false, stirJob := false,
                      spanOpen := false })
              ∧ (s.seq.step ≠ .filling → t.fill = s.fill ∧ t.milk = s.milk)
              ∧ (s.seq.step = .setting → t.coag = { s.coag with
                  state := .inactive, ticking := false, secondFallen := false, mixJob := false, readings := [] })
              ∧ (s.seq.step ≠ .setting → t.coag = s.coag)
              ∧ t.knife.run = false ∧ t.knife.speed = 0 ∧ t.knife.job = none)
        ∧ OnlyChanges [.lines, .link, .milk, .air, .seq, .fill, .coag, .knife, .press, .alerts, .store] s t)
    ∧ (s.lines.estop = true → exec .estopLineActive s = .next s)
    ∧ (s.lines.estop = true →
        exec .estopLineInactive s = .next (noteStatus s (closePress c s (assign c off))))
    ∧ (s.lines.estop = false → exec .estopLineInactive s = .next s)

/-- A record write ends with what it wrote, and a change taken meanwhile starts the next. The write in flight of the
checkpoint, of a history record or of a head record ends good with its contents in the store, and the contents that
wait are then in flight; with none in flight, for each of the three, nothing changes. Writing a record begins a
write, or replaces what the next one carries. It rests on log entries 4 (a command whose event cannot occur changes
nothing), 59 (a checkpoint write that waits keeps its record). [04_the_batch_sequencer.md 4.9 The batch record;
04_the_batch_sequencer.md 4.10 Closing a batch; 09_press_heads.md 9.10 The head table] -/
def Obligations.RecordWritesEnd : Prop :=
  (∀ (s : State) (x : Checkpoint), s.store.checkpoint.inFlight = some x →
      exec .checkpointWriteDone s = .next { s with store := { s.store with checkpoint :=
        { stored := x, good := true, inFlight := s.store.checkpoint.next, next := none } } })
    ∧ (∀ s : State, s.store.checkpoint.inFlight = none → exec .checkpointWriteDone s = .next s)
    ∧ (∀ (s : State) (h : HeadNo) (x : HeadRecord), (s.store.headTable.get h).inFlight = some x →
        let written : Slot HeadRecord :=
          { stored := x, good := true, inFlight := (s.store.headTable.get h).next, next := none }
        exec (.headRecordWriteDone h) s
          = .next { s with store := { s.store with headTable := s.store.headTable.set h written } })
    ∧ (∀ (s : State) (h : HeadNo), (s.store.headTable.get h).inFlight = none → exec (.headRecordWriteDone h) s = .next s)
    ∧ (∀ (s : State) (n : Nat), (∀ x ∈ s.store.history, x.latest.number = n → x.inFlight = none) →
        exec (.historyWriteDone n) s = .next s)
    ∧ (∀ (s : State) (n : Nat),
        let ended := fun x : Slot BatchRecord => match x.inFlight with
          | none => x
          | some r => { stored := r, good := true, inFlight := x.next, next := none }
        let kept := s.store.history.map fun x => if x.latest.number = n then ended x else x
        exec (.historyWriteDone n) s = .next { s with store := { s.store with history := kept } })
    ∧ (∀ (x : Slot BatchRecord) (r : BatchRecord), (x.write r).latest = r ∧ (x.write r).stored = x.stored
        ∧ (x.inFlight = none → x.next = none → x.write r = { x with inFlight := some r })
        ∧ (∀ y, x.inFlight = some y → x.write r = { x with next := some r }))

/-- A counted meter edge, the cover volume and the fill target. An edge of the sensitivity set adds one to the
window count, and the pulse volume to the totaliser while the counting span is open, else one to the stray edges,
and takes the no-pulse time to 0; another edge moves its line alone. Outside FLOW, and below the target where the
cover volume does not count (not reached, its stir requested already or of speed 0, or the vat held), nothing else
changes. The cover volume in unheld FLOW requests the fill stir at its speed, in the edge that reaches it, also one
that reaches the target; the drive takes it as DriveEvents says, and with DRIVE FAULT active it faults, with the
kind pending and a KNIFE hold that drops the claim and the job, and an edge that reaches the target too leaves the
vat held in SETTLE. The target, held or not, ends FLOW, with DRIVE FAULT active too where the cover volume does not
count: command and duty 0, the MILK claim dropped with its grant, FILLING / SETTLE. It rests on log entries 4 (a
command whose event cannot occur changes nothing), 5 (the row of a follow-on event makes the check of the event that
brings it), 53 (the cover before the target at one edge). [05_vat_filling_and_dosing.md 5.2 Counting milk;
05_vat_filling_and_dosing.md 5.3 FLOW; 05_vat_filling_and_dosing.md 5.4 Closing at the target; 07_knife_drive.md 7.4
Turning and watching] -/
def Obligations.MeterCounts : Prop :=
  ∀ (c : RunConfig) (s : State), s.config = some c →
    let counted := { s.fill with
      window := min 65535 (s.fill.window + 1), noPulse := 0,
      totaliser := if s.fill.spanOpen then min 4294967295 (s.fill.totaliser + c.fill.pulseVolume) else s.fill.totaliser,
      stray := if s.fill.spanOpen then s.fill.stray else min 65535 (s.fill.stray + 1) }
    let inFlow := s.seq.step = .filling ∧ s.seq.phase = .flow
    let ended := fun t : State =>
      t.seq = { s.seq with phase := .settle, current := t.seq.current } ∧ t.fill.qCmd = 0 ∧ t.fill.duty = 0
        ∧ t.milk.own = none ∧ t.milk.grant = 0 ∧ t.fill.spanOpen = s.fill.spanOpen
    let requested := fun r : Recipe => (requestJob c { kind := .fillStir, speed := r.fillStir } s).knife
    let covers := fun r : Recipe =>
      held s = false ∧ 0 < r.fillStir ∧ r.cover * 1000 ≤ counted.totaliser ∧ s.fill.stirJob = false
    let faults := fun t : State =>
      t.knife.state = .stopped ∧ t.knife.job = none ∧ t.knife.run = false ∧ t.knife.speed = 0 ∧ t.knife.offMs = 0
        ∧ t.seq.step = .filling ∧ t.seq.hold.knife = true ∧ t.fill.stirJob = false ∧ t.fill.qCmd = 0 ∧ t.fill.duty = 0
        ∧ t.milk.own = none ∧ t.milk.grant = 0 ∧ isPending .knifeDriveFault t = true
    (∀ rising, countsEdge c.lines.meter rising = false →
      exec (.meterEdge rising) s = .next { s with lines := { s.lines with meter := rising } })
    ∧ (∀ rising, countsEdge c.lines.meter rising = true → ¬ inFlow →
        exec (.meterEdge rising) s = .next { s with lines := { s.lines with meter := rising }, fill := counted })
    ∧ (∀ rising r, countsEdge c.lines.meter rising = true → inFlow → batchRecipe c s = some r →
        counted.totaliser < (r.target - r.allowance) * 1000 → ¬ covers r →
        exec (.meterEdge rising) s = .next { s with lines := { s.lines with meter := rising }, fill := counted })
    ∧ (∀ rising r, countsEdge c.lines.meter rising = true → inFlow → batchRecipe c s = some r →
        counted.totaliser < (r.target - r.allowance) * 1000 → covers r → s.lines.driveFault = false →
        ∃ t, exec (.meterEdge rising) s = .next t ∧ t.lines = { s.lines with meter := rising }
          ∧ t.fill = { counted with stirJob := true } ∧ t.knife.job = some { kind := .fillStir, speed := r.fillStir }
          ∧ t.knife = requested r ∧ OnlyChanges [.lines, .fill, .knife] s t)
    ∧ (∀ rising r, countsEdge c.lines.meter rising = true → inFlow → batchRecipe c s = some r → covers r →
        s.lines.driveFault = true →
        ∃ t, exec (.meterEdge rising) s = .next t ∧ t.lines = { s.lines with meter := rising } ∧ faults t
          ∧ t.fill.totaliser = counted.totaliser ∧ t.fill.window = counted.window ∧ t.fill.spanOpen = s.fill.spanOpen
          ∧ (counted.totaliser < (r.target - r.allowance) * 1000 → t.seq.phase = .flow)
          ∧ ((r.target - r.allowance) * 1000 ≤ counted.totaliser → t.seq.phase = .settle)
          ∧ OnlyChanges ([.lines, .store] ++ Part.ofRaise) s t)
    ∧ (∀ rising r, countsEdge c.lines.meter rising = true → inFlow → batchRecipe c s = some r →
        (r.target - r.allowance) * 1000 ≤ counted.totaliser → ¬ covers r ∨ s.lines.driveFault = false →
        ∃ t, exec (.meterEdge rising) s = .next t ∧ ended t ∧ t.fill.totaliser = counted.totaliser
          ∧ t.fill.window = counted.window ∧ t.lines = { s.lines with meter := rising }
          ∧ (¬ covers r → t.fill.stirJob = s.fill.stirJob ∧ t.knife = s.knife)
          ∧ (covers r → t.fill.stirJob = true ∧ t.knife = requested r)
          ∧ OnlyChanges [.lines, .fill, .milk, .seq, .store, .knife] s t)
    ∧ (∀ r, inFlow → held s = false → batchRecipe c s = some r → 0 < r.fillStir → r.cover * 1000 ≤ s.fill.totaliser →
        s.fill.stirJob = false → s.lines.driveFault = false →
        ∃ t, exec .coverVolumeReached s = .next t ∧ t.fill = { s.fill with stirJob := true }
          ∧ t.knife.job = some { kind := .fillStir, speed := r.fillStir } ∧ t.knife = requested r
          ∧ OnlyChanges [.fill, .knife] s t)
    ∧ (∀ r, inFlow → held s = false → batchRecipe c s = some r → 0 < r.fillStir → r.cover * 1000 ≤ s.fill.totaliser →
        s.fill.stirJob = false → s.lines.driveFault = true →
        ∃ t, exec .coverVolumeReached s = .next t ∧ faults t ∧ t.seq.phase = .flow ∧ OnlyChanges Part.ofRaise s t)
    ∧ (∀ r, inFlow → batchRecipe c s = some r → (r.target - r.allowance) * 1000 ≤ s.fill.totaliser →
        ∃ t, exec .fillTargetReached s = .next t ∧ ended t ∧ t.fill.totaliser = s.fill.totaliser
          ∧ OnlyChanges [.fill, .milk, .seq, .store] s t)

/-- The fill second: measured flow, flow command, duty and the faults of the fill. Q_meas is (window count × pulse
volume × 60) div 1000 and the window count 0 at every fill second. In unheld FLOW the command is the lesser of the
grant and the command plus the ramp step, the duty moves by (Q_cmd - Q_meas) × gain div 64 toward zero within 0 to
1000, and FLOW elapsed advances. The fifth second of command without an edge is the meter fault: command, duty,
claim and grant go, METER holds the vat, and METER_FAULT is pending with the command as its detail. FLOW elapsed at
its limit leaves FILL_SLOW pending once, with the totaliser in litres, in the second that reaches it. It rests on
log entries 4 (a command whose event cannot occur changes nothing), 5 (the row of a follow-on event makes the check
of the event that brings it), 48 (the seconds without an edge). [05_vat_filling_and_dosing.md 5.2 Counting milk;
05_vat_filling_and_dosing.md 5.3 FLOW; 05_vat_filling_and_dosing.md 5.5 Faults during the fill] -/
def Obligations.FillSeconds : Prop :=
  ∀ (c : RunConfig) (s : State), s.config = some c →
    let qMeas := s.fill.window * c.fill.pulseVolume * 60 / 1000
    let inFlow := s.seq.step = .filling ∧ s.seq.phase = .flow ∧ held s = false
    let q := min s.fill.grant (s.fill.qCmd + c.fill.rampStep)
    let faulted := fun (t : State) (command : Nat) =>
      t.fill.qCmd = 0 ∧ t.fill.duty = 0 ∧ t.milk.own = none ∧ t.milk.grant = 0 ∧ t.seq.hold.meter = true
        ∧ isPending .meterFault t = true
        ∧ (isPending .meterFault s = false → ∃ a ∈ t.alerts.pending, a.kind = .meterFault ∧ a.detail = command)
        ∧ OnlyChanges Part.ofRaise s t
    (s.seq.step ≠ .filling ∨ held s = true →
      exec .fillSecond s = .next { s with fill := { s.fill with qMeas := qMeas, window := 0 } })
    ∧ (∀ r, inFlow → batchRecipe c s = some r → q = 0 ∨ s.fill.noPulse < 4 →
        s.fill.slowRaised = true ∨ (∀ l, durationLimit r.fillLimit = some l → min 65535 (s.fill.flowElapsed + 1) < l) →
        exec .fillSecond s = .next { s with fill := { s.fill with
          qMeas := qMeas, window := 0, qCmd := q,
          duty := if q = 0 then 0 else
            (min 1000 (max 0 ((s.fill.duty : Int) + (((q : Int) - qMeas) * c.fill.gain).tdiv 64))).toNat,
          noPulse := if q = 0 then 0 else min 5 (s.fill.noPulse + 1),
          flowElapsed := min 65535 (s.fill.flowElapsed + 1) } })
    ∧ (∀ r, inFlow → batchRecipe c s = some r → 0 < q → 4 ≤ s.fill.noPulse →
        ∃ t, exec .fillSecond s = .next t ∧ faulted t q ∧ t.fill.qMeas = qMeas ∧ t.fill.flowElapsed = s.fill.flowElapsed)
    ∧ (inFlow → 0 < s.fill.qCmd → 5 ≤ s.fill.noPulse →
        ∃ t, exec .meterFault s = .next t ∧ faulted t s.fill.qCmd ∧ t.fill.totaliser = s.fill.totaliser)
    ∧ (∀ r l, s.seq.step = .filling → s.seq.phase = .flow → batchRecipe c s = some r → s.fill.slowRaised = false →
        durationLimit r.fillLimit = some l → l ≤ s.fill.flowElapsed →
        ∃ t, exec .fillSlow s = .next t ∧ t.fill.slowRaised = true ∧ isPending .fillSlow t = true
          ∧ (isPending .fillSlow s = false → ∃ a ∈ t.alerts.pending,
              a.kind = .fillSlow ∧ a.detail = s.fill.totaliser / 1000)
          ∧ t.fill.totaliser = s.fill.totaliser ∧ OnlyChanges Part.ofRaise s t)
    ∧ (∀ r l, inFlow → batchRecipe c s = some r → q = 0 ∨ s.fill.noPulse < 4 → s.fill.slowRaised = false →
        durationLimit r.fillLimit = some l → l ≤ min 65535 (s.fill.flowElapsed + 1) →
        ∃ t, exec .fillSecond s = .next t ∧ t.fill.qMeas = qMeas ∧ t.fill.slowRaised = true
          ∧ t.fill.flowElapsed = min 65535 (s.fill.flowElapsed + 1) ∧ isPending .fillSlow t = true
          ∧ (isPending .fillSlow s = false → ∃ a ∈ t.alerts.pending,
              a.kind = .fillSlow ∧ a.detail = s.fill.totaliser / 1000)
          ∧ (t.seq.hold = s.seq.hold → t.fill.qCmd = q) ∧ t.fill.totaliser = s.fill.totaliser
          ∧ OnlyChanges Part.ofRaise s t)
    ∧ (s.fill.slowRaised = true → exec .fillSlow s = .next s)

/-- SETTLE lasts 5 s and records the fill, and DOSE lasts the dose time. Each unheld fill second advances the settle or
the dosed time. At 5 s the counting span shuts, the record takes the filled volume and the signed overrun in litres,
truncated toward zero, and FILLING / DOSE begins with the pump on. At the dose time the pump goes off, the fill stir
gives way and SETTING / MIX begins with the set clock at 0 and its mix requested, which with DRIVE FAULT active
faults the drive, with the kind pending and a KNIFE hold; with a mix time of 0 SETTING / QUIET begins in the same
event, with the quiet start at 0. It rests on log entry 5 (the row of a follow-on event makes the check of the event
that brings it). [05_vat_filling_and_dosing.md 5.4 Closing at the target; 05_vat_filling_and_dosing.md 5.6 The
coagulant dose; 04_the_batch_sequencer.md 4.1 Steps, phases and the sequencer's state;
06_coagulation_monitoring_and_cut_timing.md 6.2 The mix; 07_knife_drive.md 7.4 Turning and watching] -/
def Obligations.SettleAndDose : Prop :=
  ∀ (c : RunConfig) (s : State) (r : Recipe) (b : BatchRecord),
    s.config = some c → batchRecipe c s = some r → openRecord s = some b → s.seq.step = .filling → held s = false →
    let measured := { s.fill with qMeas := s.fill.window * c.fill.pulseVolume * 60 / 1000, window := 0 }
    let settled := fun t : State =>
      t.seq.step = .filling ∧ t.seq.phase = .dose ∧ t.fill.spanOpen = false ∧ t.fill.dosePump = true
        ∧ openRecord t = some { b with
            filled := s.fill.totaliser, overrun := ((s.fill.totaliser : Int) - r.target * 1000).tdiv 1000,
            step := .filling, phase := .dose }
        ∧ OnlyChanges [.fill, .seq, .store] s t
    let noFaults := r.mixSpeed = 0 ∨ s.lines.driveFault = false
    let dosed := fun t : State =>
      t.seq.step = .setting ∧ t.seq.phase = .mix ∧ t.fill.dosePump = false ∧ t.fill.stirJob = false
        ∧ t.coag.state = .mix ∧ t.coag.clock = 0 ∧ t.coag.ticking = true ∧ t.coag.mixTimer = 0
        ∧ (0 < r.mixSpeed → t.knife.job = some { kind := .mix, speed := r.mixSpeed }
            ∧ t.knife = (requestJob c { kind := .mix, speed := r.mixSpeed } s).knife)
        ∧ (∀ j, r.mixSpeed = 0 → s.knife.job = some j → j.kind = .fillStir → t.knife.job = none ∧ t.coag.mixJob = s.coag.mixJob)
        ∧ OnlyChanges [.fill, .seq, .store, .coag, .knife] s t
    let faults := fun t : State =>
      t.seq.step = .setting ∧ t.seq.phase = .mix ∧ t.fill.dosePump = false ∧ t.fill.stirJob = false
        ∧ t.coag.state = .mix ∧ t.coag.clock = 0 ∧ t.coag.ticking = true ∧ t.coag.mixTimer = 0 ∧ t.coag.mixJob = false
        ∧ t.knife.state = .stopped ∧ t.knife.job = none ∧ t.knife.run = false ∧ t.knife.speed = 0 ∧ t.knife.offMs = 0
        ∧ t.seq.hold.knife = true ∧ isPending .knifeDriveFault t = true ∧ OnlyChanges (.store :: Part.ofRaise) s t
    let quieted := fun t : State =>
      t.seq.step = .setting ∧ t.seq.phase = .quiet ∧ t.fill.dosePump = false ∧ t.fill.stirJob = false
        ∧ t.coag.state = .watch ∧ t.coag.clock = 0 ∧ t.coag.ticking = true ∧ t.coag.quietStart = 0 ∧ t.coag.index = 0
        ∧ t.coag.window = [] ∧ t.coag.railRun = 0
        ∧ (∀ j, s.knife.job = some j → j.kind = .fillStir → t.knife.job = none)
        ∧ OnlyChanges [.fill, .seq, .store, .coag, .knife] s t
    (s.seq.phase = .settle → s.fill.settle < 4 →
      exec .fillSecond s = .next { s with fill := { measured with settle := s.fill.settle + 1 } })
    ∧ (s.seq.phase = .settle → 4 ≤ s.fill.settle → ∃ t, exec .fillSecond s = .next t ∧ settled t)
    ∧ (s.seq.phase = .settle → 5 ≤ s.fill.settle → ∃ t, exec .settleEnd s = .next t ∧ settled t)
    ∧ (s.seq.phase = .dose → s.fill.dosed < 599 → s.fill.dosed + 1 < duration r.doseTime →
        exec .fillSecond s = .next { s with fill := { measured with dosed := s.fill.dosed + 1 } })
    ∧ (s.seq.phase = .dose → duration r.doseTime ≤ min 600 (s.fill.dosed + 1) → 0 < duration r.mixTime →
        ∃ t, exec .fillSecond s = .next t ∧ (noFaults → dosed t) ∧ (¬ noFaults → faults t))
    ∧ (s.seq.phase = .dose → duration r.doseTime ≤ s.fill.dosed → 0 < duration r.mixTime →
        ∃ t, exec .doseEnd s = .next t ∧ (noFaults → dosed t) ∧ (¬ noFaults → faults t))
    ∧ (s.seq.phase = .dose → duration r.doseTime ≤ min 600 (s.fill.dosed + 1) → duration r.mixTime = 0 →
        ∃ t, exec .fillSecond s = .next t ∧ quieted t)
    ∧ (s.seq.phase = .dose → duration r.doseTime ≤ s.fill.dosed → duration r.mixTime = 0 →
        ∃ t, exec .doseEnd s = .next t ∧ quieted t)

/-- The set clock, the end of the mix, NO_FLOC and the cut falling due. The clock advances at each second through
holds, and the second clears the mark that it has fallen (log 26); the mix timer advances only unheld in MIX. At the
mix time SETTING / QUIET begins with the quiet start at the set clock and sampling from index 0. At T_MAX without a
detection, in MIX too, where a mix that ends at that second ends first, the cut is T_MAX with reason NO_FLOC, which
is pending with the peak slope as its detail if ARMED and 0 otherwise. A pending cut falls due at its time with its
reason. A cut that falls due is written into the record; unheld, CUTTING begins with lateness 0; held, the step
stays SETTING and the monitor is DUE. It rests on log entries 4 (a command whose event cannot occur changes
nothing), 5 (the row of a follow-on event makes the check of the event that brings it), 22 (the step of a raise and
the cut before the hold it brings), 26 (SET_CLOCK_SECOND clears the mark of a second that has fallen), 41 (the mix
that ends at T_MAX). [06_coagulation_monitoring_and_cut_timing.md 6.1 The monitor's state;
06_coagulation_monitoring_and_cut_timing.md 6.2 The mix; 06_coagulation_monitoring_and_cut_timing.md 6.5 The cut
time; 06_coagulation_monitoring_and_cut_timing.md 6.6 Holds, stops and resets at the monitor;
04_the_batch_sequencer.md 4.6 SETTING held] -/
def Obligations.SetClockSeconds : Prop :=
  ∀ (c : RunConfig) (s : State) (r : Recipe) (b : BatchRecord),
    s.config = some c → batchRecipe c s = some r → openRecord s = some b → s.seq.step = .setting →
    let clock := min 65535 (s.coag.clock + 1)
    let ticked := { s.coag with clock := clock, secondFallen := false }
    let quiet := fun (t : State) (at_ : Nat) =>
      t.seq.step = .setting ∧ t.seq.phase = .quiet ∧ t.coag.state = .watch ∧ t.coag.clock = at_ ∧ t.coag.quietStart = at_
        ∧ t.coag.index = 0 ∧ t.coag.window = [] ∧ t.coag.railRun = 0 ∧ t.coag.ticking = s.coag.ticking
        ∧ (∀ j, s.knife.job = some j → j.kind = .mix → t.knife.job = none)
        ∧ OnlyChanges [.coag, .seq, .store, .knife] s t
    let due := fun (t : State) (time : Nat) (reason : CutReason) =>
      (openRecord t).map (fun x => (x.cutTime, x.cutReason)) = some (time, reason)
        ∧ (held s = false → t.seq.step = .cutting ∧ t.coag.state = .inactive ∧ t.coag.ticking = false
            ∧ (openRecord t).map BatchRecord.lateness = some 0)
        ∧ (held s = true → t.seq.step = .setting ∧ t.coag.state = .due ∧ t.coag.dueAt = time)
        ∧ t.press = s.press ∧ t.air = s.air ∧ t.peers = s.peers
    let noFlocDue := fun t : State =>
      due t (duration r.tMax) .noFloc ∧ isPending .noFloc t = true
        ∧ (isPending .noFloc s = false → ∃ a ∈ t.alerts.pending, a.kind = .noFloc ∧ a.step = .setting
            ∧ a.detail = if s.coag.state = .armed then s.coag.peak else 0)
    (s.coag.ticking = false → exec .setClockSecond s = .next s)
    ∧ (s.coag.ticking = true → s.coag.state = .watch ∨ s.coag.state = .armed → clock < duration r.tMax →
        exec .setClockSecond s = .next { s with coag := ticked })
    ∧ (∀ at_, s.coag.ticking = true → s.coag.state = .pending → s.coag.cutAt = some at_ → clock < at_ →
        exec .setClockSecond s = .next { s with coag := ticked })
    ∧ (s.coag.ticking = true → s.coag.state = .due → exec .setClockSecond s = .next { s with coag := ticked })
    ∧ (s.coag.ticking = true → s.coag.state = .mix → held s = true → clock < duration r.tMax →
        exec .setClockSecond s = .next { s with coag := ticked })
    ∧ (s.coag.ticking = true → s.coag.state = .mix → held s = false → clock < duration r.tMax →
        s.coag.mixTimer + 1 < duration r.mixTime →
        exec .setClockSecond s = .next { s with coag := { ticked with mixTimer := s.coag.mixTimer + 1 } })
    ∧ (s.coag.ticking = true → s.coag.state = .mix → held s = false → clock < duration r.tMax →
        duration r.mixTime ≤ s.coag.mixTimer + 1 → ∃ t, exec .setClockSecond s = .next t ∧ quiet t clock)
    ∧ (s.coag.state = .mix → held s = false → duration r.mixTime ≤ s.coag.mixTimer →
        ∃ t, exec .mixEnd s = .next t ∧ quiet t s.coag.clock)
    ∧ (s.coag.ticking = true → s.coag.state = .mix ∨ s.coag.state = .watch ∨ s.coag.state = .armed →
        duration r.tMax ≤ clock →
        ∃ t, exec .setClockSecond s = .next t ∧ noFlocDue t
          ∧ t.coag.quietStart =
            if s.coag.state = .mix ∧ held s = false ∧ duration r.mixTime ≤ s.coag.mixTimer + 1 then clock
            else s.coag.quietStart)
    ∧ (s.coag.state = .mix ∨ s.coag.state = .watch ∨ s.coag.state = .armed → duration r.tMax ≤ s.coag.clock →
        ∃ t, exec .noFloc s = .next t ∧ noFlocDue t)
    ∧ (∀ at_, s.coag.ticking = true → s.coag.state = .pending → s.coag.cutAt = some at_ → at_ ≤ clock →
        ∃ t, exec .setClockSecond s = .next t ∧ due t at_ s.coag.reason)
    ∧ (∀ at_, s.coag.state = .pending → s.coag.cutAt = some at_ → at_ ≤ s.coag.clock →
        ∃ t, exec .cutDue s = .next t ∧ due t at_ s.coag.reason)

/-- Good samples: arming, the peak, and the reckoned cut time. Eight readings make a sample, completing at t_q + (k + 1)
× P with their mean, truncated. A good sample joins the window of five; with fewer it has no slope and changes
neither the state nor the peak. In WATCH a slope at or above the minimum arms with itself as the peak, and a lower
one leaves WATCH; in ARMED a greater slope replaces the peak and its index, and an equal or lesser one above three
quarters of it leaves both; at or below three quarters flocculation is detected and the cut reckoned: (t_f × M + 8)
div 16, clamped to T_MIN and T_MAX with its reason, PENDING when it lies after the detection. Rail samples keep the
armed state and the peak. It rests on log entries 5 (the row of a follow-on event makes the check of the event that
brings it), 26 (the second at which a sample completes, and a second that has fallen).
[06_coagulation_monitoring_and_cut_timing.md 6.3 Firmness sampling; 06_coagulation_monitoring_and_cut_timing.md 6.4
The slope and the flocculation point; 06_coagulation_monitoring_and_cut_timing.md 6.5 The cut time] -/
def Obligations.SamplesJudged : Prop :=
  (∀ (c : RunConfig) (s : State) (r : Recipe) (b : BatchRecord) (raw : Raw) (i : Instr),
    s.config = some c → batchRecipe c s = some r → openRecord s = some b → s.seq.step = .setting →
    s.coag.state = .watch ∨ s.coag.state = .armed →
    let s' := { s with lines := { s.lines with firmness := raw } }
    let k := s.coag.index
    let time := s.coag.quietStart + (k + 1) * r.period
    let mean := (s.coag.readings.sum + raw.toNat) / 8
    let rail := mean ≤ 16 ∨ 4079 ≤ mean
    let w := (s.coag.window ++ [mean]).drop (s.coag.window.length + 1 - 5)
    let joined := fun slope : Option Int => { s.coag with
      lastRaw := raw.toNat, lastMean := mean, index := min 65535 (k + 1), readings := [], sampleMs := 0,
      railRun := if rail then min 3 (s.coag.railRun + 1) else 0, window := if rail then [] else w, slope := slope,
      secondFallen := s.coag.secondFallen || s.coag.clock + 1 == time }
    (s.coag.readings.length < 7 →
      exec (.firmnessReading raw) s = .next { s' with coag := { s.coag with
        readings := s.coag.readings ++ [raw.toNat], lastRaw := raw.toNat } })
    ∧ (i = .firmnessReading raw ∨ i = .sampleComplete raw → s.coag.readings.length = 7 →
        s.coag.clock = time ∨ s.coag.clock + 1 = time →
        (rail → s.coag.railRun < 2 → exec i s = .next { s' with coag := joined none })
        ∧ (¬ rail → w.length < 5 → exec i s = .next { s' with coag := joined none })
        ∧ (∀ oldest : Nat, ¬ rail → w.length = 5 → w[0]? = some oldest →
            let slope := (mean : Int) - oldest
            let kept := joined (some slope)
            (s.coag.state = .watch → (r.minSlope : Int) ≤ slope →
              exec i s = .next { s' with coag := { kept with state := .armed, peak := slope.toNat, peakIndex := k } })
            ∧ (s.coag.state = .watch → slope < r.minSlope → exec i s = .next { s' with coag := kept })
            ∧ (s.coag.state = .armed → (s.coag.peak : Int) < slope →
                exec i s = .next { s' with coag := { kept with peak := slope.toNat, peakIndex := k } })
            ∧ (s.coag.state = .armed → slope ≤ s.coag.peak → ((s.coag.peak * 3 / 4 : Nat) : Int) < slope →
                exec i s = .next { s' with coag := kept })
            ∧ (s.coag.state = .armed → slope ≤ ((s.coag.peak * 3 / 4 : Nat) : Int) →
                let floc := s.coag.quietStart + (s.coag.peakIndex + 1) * r.period - 2 * r.period
                let cut := clampCut r floc
                ∃ t, exec i s = .next t ∧ t.coag.flocTime = some floc ∧ t.coag.detectTime = some time
                  ∧ (openRecord t).map BatchRecord.flocTime = some (some floc)
                  ∧ (time < cut.1 → t.coag.state = .pending ∧ t.coag.cutAt = some cut.1 ∧ t.coag.reason = cut.2
                      ∧ t.seq.step = .setting)
                  ∧ (cut.1 ≤ time → t.coag.cutAt = some time ∧ t.coag.reason = .lateDetect
                      ∧ (openRecord t).map (fun x => (x.cutTime, x.cutReason)) = some (time, .lateDetect)
                      ∧ t.seq.step = (if held s then .setting else .cutting))))))
    ∧ (∀ (r : Recipe) (floc : Nat),
        let t := (floc * r.multiplier + 8) / 16
        (t < duration r.tMin → clampCut r floc = (duration r.tMin, .clampedMin))
        ∧ (duration r.tMin ≤ t → duration r.tMax < t → clampCut r floc = (duration r.tMax, .clampedMax))
        ∧ (duration r.tMin ≤ t → t ≤ duration r.tMax → clampCut r floc = (t, .predicted))
        ∧ (duration r.tMin ≤ duration r.tMax →
            duration r.tMin ≤ (clampCut r floc).1 ∧ (clampCut r floc).1 ≤ duration r.tMax))

/-- The third rail sample in a row is a firmness sensor fault. The monitor ends detection, FIRMNESS_SENSOR is pending
with the sample's mean as its detail, and the cut reason is SENSOR: the cut is pending at T_FALLBACK if that lies
ahead, else it falls due at the present time. It rests on log entries 4 (a command whose event cannot occur changes
nothing), 5 (the row of a follow-on event makes the check of the event that brings it), 22 (the step of a raise and
the cut before the hold it brings), 26 (the second at which a sample completes, and a second that has fallen).
[06_coagulation_monitoring_and_cut_timing.md 6.3 Firmness sampling; 06_coagulation_monitoring_and_cut_timing.md 6.5
The cut time] -/
def Obligations.FirmnessFault : Prop :=
  ∀ (c : RunConfig) (s : State) (r : Recipe) (b : BatchRecord) (raw : Raw) (i : Instr),
    s.config = some c → batchRecipe c s = some r → openRecord s = some b → s.seq.step = .setting →
    s.coag.state = .watch ∨ s.coag.state = .armed →
    let faulted := fun (t : State) (now mean : Nat) =>
      t.coag.reason = .sensor ∧ isPending .firmnessSensor t = true
        ∧ (isPending .firmnessSensor s = false → ∃ a ∈ t.alerts.pending,
            a.kind = .firmnessSensor ∧ a.detail = mean ∧ a.step = .setting)
        ∧ (now < duration r.tFallback → t.coag.state = .pending ∧ t.coag.cutAt = some (duration r.tFallback)
            ∧ t.seq.step = .setting)
        ∧ (duration r.tFallback ≤ now → t.coag.cutAt = some now
            ∧ (openRecord t).map (fun x => (x.cutTime, x.cutReason)) = some (now, .sensor)
            ∧ t.seq.step = (if held s then .setting else .cutting)
            ∧ t.coag.state = (if held s then .due else .inactive))
        ∧ t.press = s.press ∧ t.air = s.air ∧ t.peers = s.peers
    let mean := (s.coag.readings.sum + raw.toNat) / 8
    let time := s.coag.quietStart + (s.coag.index + 1) * r.period
    (i = .firmnessReading raw ∨ i = .sampleComplete raw → s.coag.readings.length = 7 →
      s.coag.clock = time ∨ s.coag.clock + 1 = time → mean ≤ 16 ∨ 4079 ≤ mean → 2 ≤ s.coag.railRun →
      ∃ t, exec i s = .next t ∧ faulted t time mean)
    ∧ (s.coag.railRun = 3 → ∃ t, exec .firmnessSensor s = .next t
        ∧ faulted t (s.coag.quietStart + (s.coag.index - 1 + 1) * r.period) s.coag.lastMean)
    ∧ (s.coag.railRun ≠ 3 → exec .firmnessSensor s = .next s)

/-- Requests, starts, the grace, turns, stalls and drive faults of the knives. A request puts its job in force, a STIR
job at the speed of its profile. In STOPPED it starts the drive at once if RUN has been off for the reverse dwell,
else the drive waits in DWELL; in DWELL the dwell goes on for the new job; in STARTING and RUNNING a job of the same
direction takes its speed alone, and one of the other direction turns RUN off for a whole dwell. With DRIVE FAULT
active it faults the drive. A drive in FAULTED keeps its state (log 29). RUN goes on at the end of the reverse
dwell, in the job's direction at its speed, which a restart of the stir in RAMP or RUN takes from the profile
without a change of step or phase; with a ramp time of 0 the stir runs at once, and with a stir time of 0 too
MOULDING begins, which a VAT EMPTY line already active ends at once, with SHORT_MOULDING pending below a loads
count; a dwell that outlived its job rests in that job's direction. The hold of a step in DWELL leaves a dwell that
has run for STOPPED in the job's direction, and one that has not runs on without the job. After 5 s of grace the
drive is RUNNING with stall time 0. A counted TURN edge advances the turn count and in RUNNING clears the stall
time. A stall of 3 s, and DRIVE FAULT going active with a job in force, turn RUN off with speed 0, leave the kind
pending with the speed before as its detail, add KNIFE in a holdable step, and the hold of an unheld step withdraws
its job. DRIVE FAULT without a job leaves its kind pending with detail 0. It rests on log entries 4 (a command whose
event cannot occur changes nothing), 23 (SHORT_MOULDING before the close), 24 (the lane check and the REPORT in the
closing event), 29 (a request that finds the drive FAULTED), 39 (off since after a halt), 46 (the direction after a
dwell that had run), 49 (the stall time outside RUNNING). [07_knife_drive.md 7.1 Lines and state; 07_knife_drive.md
7.2 Jobs; 07_knife_drive.md 7.3 Starting, reversing and replacing; 07_knife_drive.md 7.4 Turning and watching;
07_knife_drive.md 7.5 The cut and the stir; 08_moulding_and_the_load_queue.md 8.2 The MOULDING step] -/
def Obligations.DriveEvents : Prop :=
  ∀ (c : RunConfig) (s : State), s.config = some c →
    let k := s.knife
    let owned := fun j : Job => held s = false ∧
      ((s.seq.step = .filling ∧ j.kind = .fillStir) ∨ (s.seq.step = .setting ∧ j.kind = .mix)
        ∨ ((s.seq.step = .cutting ∨ s.seq.step = .stirring) ∧ (j.kind = .cut ∨ j.kind = .stir)))
    let pendingWith := fun (t : State) (a : AlertKind) (detail : Nat) =>
      isPending a t = true ∧ (isPending a s = false → ∃ x ∈ t.alerts.pending, x.kind = a ∧ x.detail = detail)
    let faulted := fun (t : State) (j : Job) (a : AlertKind) =>
      t.knife.run = false ∧ t.knife.speed = 0 ∧ t.knife.offMs = 0 ∧ pendingWith t a k.speed
        ∧ (s.seq.step.holdable = true → t.seq.hold.knife = true)
        ∧ (owned j → t.knife.state = .stopped ∧ t.knife.job = none)
        ∧ (s.seq.step.holdable = false → t.knife.state = .faulted ∧ t.knife.job = some j)
    let emptied := fun (t : State) (r : Recipe) (b : BatchRecord) =>
      t.seq = { s.seq with step := .idle, phase := .none, hold := HoldSet.clear, current := .none, outlet := false,
                           fillerRequest := false }
        ∧ t.queue = { s.queue with filled := 0 } ∧ t.knife.job = none ∧ t.knife.run = false ∧ t.knife.speed = 0
        ∧ (0 < r.loadsCount → isPending .shortMoulding t = true
            ∧ (isPending .shortMoulding s = false → ∃ a ∈ t.alerts.pending,
                a.kind = .shortMoulding ∧ a.detail = 0 ∧ a.step = .moulding ∧ a.batchNumber = b.number))
        ∧ (r.loadsCount = 0 → t.alerts = s.alerts)
        ∧ (HistorySound s → (t.store.history.getLast?.map fun x => let y := x.latest
            (y.number, y.made, y.pressed, y.outcome, y.laneClosed))
          = some (b.number, b.made, b.pressed,
              if b.laneClosed = false ∧ b.pressed = b.made then .done else .vatDone, b.laneClosed || b.pressed == b.made))
        ∧ OnlyChanges ([.queue, .store] ++ Part.ofRaise) s t
    (∀ j, k.state = .dwell → c.lines.reverseDwell * 1000 ≤ k.offMs → k.job = some j → j.kind ≠ .stir →
      exec .reverseDwellEnd s = .next { s with knife := { k with
        state := .starting, continuing := false, run := true, reverse := j.kind.direction, speed := j.speed,
        graceMs := 0, secondMs := 0 } })
    ∧ (∀ j r, k.state = .dwell → c.lines.reverseDwell * 1000 ≤ k.offMs → k.job = some j → j.kind = .stir →
        batchRecipe c s = some r → s.seq.step = .stirring → s.seq.phase = .dwell → 0 < duration r.rampTime →
        ∃ t, exec .reverseDwellEnd s = .next t ∧ t.seq.step = .stirring ∧ t.seq.phase = .ramp
          ∧ t.knife.state = .starting ∧ t.knife.run = true ∧ t.knife.reverse = .stir
          ∧ t.knife.speed = stirJobSpeed r .dwell k.rampElapsed ∧ t.knife.graceMs = 0
          ∧ OnlyChanges [.knife, .seq, .store] s t)
    ∧ (∀ j r, k.state = .dwell → c.lines.reverseDwell * 1000 ≤ k.offMs → k.job = some j → j.kind = .stir →
        batchRecipe c s = some r → s.seq.step = .stirring → s.seq.phase = .dwell → duration r.rampTime = 0 →
        (0 < duration r.stirTime →
          ∃ t, exec .reverseDwellEnd s = .next t ∧ t.seq.step = .stirring ∧ t.seq.phase = .run
            ∧ t.knife.state = .starting ∧ t.knife.run = true ∧ t.knife.reverse = .stir ∧ t.knife.speed = r.stirSpeed
            ∧ t.knife.job = some { kind := .stir, speed := r.stirSpeed } ∧ OnlyChanges [.knife, .seq, .store] s t)
        ∧ (duration r.stirTime = 0 → s.lines.vatEmpty = false →
          ∃ t, exec .reverseDwellEnd s = .next t ∧ t.seq.step = .moulding ∧ t.seq.outlet = !held s
            ∧ t.seq.fillerRequest = held s ∧ t.queue = { s.queue with filled := 0 } ∧ t.knife.job = none
            ∧ t.knife.run = false ∧ t.knife.speed = 0 ∧ OnlyChanges [.knife, .seq, .store, .queue] s t)
        ∧ (∀ b, openRecord s = some b → duration r.stirTime = 0 → s.lines.vatEmpty = true →
          ∃ t, exec .reverseDwellEnd s = .next t ∧ emptied t r b))
    ∧ (∀ j, k.state = .dwell → c.lines.reverseDwell * 1000 ≤ k.offMs → k.job = some j → j.kind = .stir →
        s.seq.step ≠ .stirring ∨ s.seq.phase ≠ .dwell →
        let speed := ((batchRecipe c s).map fun r => stirJobSpeed r s.seq.phase k.rampElapsed).getD j.speed
        exec .reverseDwellEnd s = .next { s with knife := { k with
          state := .starting, job := some { kind := .stir, speed := speed }, continuing := false, run := true,
          reverse := .stir, speed := speed, graceMs := 0, secondMs := 0 } })
    ∧ (∀ j : Job,
        let speed := if j.kind = .stir
          then ((batchRecipe c s).map fun r => stirJobSpeed r s.seq.phase k.rampElapsed).getD j.speed else j.speed
        let new : Job := { kind := j.kind, speed := speed }
        let t := requestJob c j s
        let inForce := { k with job := some new, continuing := false }
        let rests := c.lines.reverseDwell * 1000 ≤ k.offMs
        let reported := j.kind = .stir ∧ s.seq.step = .stirring ∧ s.seq.phase = .dwell
        let started := { inForce with
          state := .starting, run := true, reverse := j.kind.direction, speed := speed, graceMs := 0, secondMs := 0 }
        let turning := k.state = .starting ∨ k.state = .running
        (s.lines.driveFault = true → faulted t new .knifeDriveFault ∧ OnlyChanges Part.ofRaise s t)
        ∧ (s.lines.driveFault = false →
            (k.state = .stopped → ¬ rests → t = { s with knife := { inForce with state := .dwell } })
            ∧ (k.state = .stopped → rests → ¬ reported → t = { s with knife := started })
            ∧ (∀ r, k.state = .stopped → rests → reported → batchRecipe c s = some r →
                (0 < duration r.rampTime → t.knife = started ∧ t.seq.step = .stirring ∧ t.seq.phase = .ramp
                  ∧ OnlyChanges [.knife, .seq, .store] s t)
                ∧ (duration r.rampTime = 0 → 0 < duration r.stirTime → t.seq.step = .stirring ∧ t.seq.phase = .run
                  ∧ t.knife = { started with job := some { kind := .stir, speed := r.stirSpeed }, speed := r.stirSpeed }
                  ∧ OnlyChanges [.knife, .seq, .store] s t)
                ∧ (duration r.rampTime = 0 → duration r.stirTime = 0 → s.lines.vatEmpty = false →
                  t.seq.step = .moulding ∧ t.knife.job = none ∧ t.knife.run = false ∧ t.knife.speed = 0)
                ∧ (∀ b, openRecord s = some b → duration r.rampTime = 0 → duration r.stirTime = 0 →
                  s.lines.vatEmpty = true → emptied t r b))
            ∧ (k.state = .dwell → t = { s with knife := inForce })
            ∧ (turning → k.reverse = j.kind.direction →
                t = { s with knife := { inForce with speed := if k.run then speed else k.speed } })
            ∧ (turning → k.reverse ≠ j.kind.direction →
                t = { s with knife := { inForce with state := .dwell, run := false, speed := 0, offMs := 0, secondMs := 0 } })
            ∧ (k.state = .faulted → t = { s with knife := inForce })))
    ∧ (∀ j reason, k.state = .dwell → k.job = some j → owned j →
        (c.lines.reverseDwell * 1000 ≤ k.offMs → (addReason reason s).knife = { k with
          state := .stopped, job := none, continuing := false, reverse := j.kind.direction })
        ∧ (k.offMs < c.lines.reverseDwell * 1000 → (addReason reason s).knife = { k with
            job := none, continuing := true, restDir := j.kind.direction }))
    ∧ (k.state = .dwell → c.lines.reverseDwell * 1000 ≤ k.offMs → k.job = none →
        exec .reverseDwellEnd s = .next { s with knife := { k with
          state := .stopped, reverse := k.restDir, continuing := false } })
    ∧ (k.state ≠ .dwell ∨ k.offMs < c.lines.reverseDwell * 1000 → exec .reverseDwellEnd s = .next s)
    ∧ (k.state = .starting → 5000 ≤ k.graceMs →
        exec .startGraceEnd s = .next { s with knife := { k with state := .running, stallMs := 0, secondMs := 0 } })
    ∧ (k.state ≠ .starting ∨ k.graceMs < 5000 → exec .startGraceEnd s = .next s)
    ∧ (∀ rising, countsEdge c.lines.turn rising = false →
        exec (.turnEdge rising) s = .next { s with lines := { s.lines with turn := rising } })
    ∧ (∀ rising, countsEdge c.lines.turn rising = true →
        exec (.turnEdge rising) s = .next { s with
          lines := { s.lines with turn := rising }
          knife := { k with turns := min 65535 (k.turns + 1), stallMs := if k.state = .running then 0 else k.stallMs } })
    ∧ (∀ j, k.state = .running → k.job = some j → 3000 ≤ k.stallMs →
        ∃ t, exec .knifeStall s = .next t ∧ faulted t j .knifeStall ∧ OnlyChanges Part.ofRaise s t)
    ∧ (k.state ≠ .running ∨ k.stallMs < 3000 → exec .knifeStall s = .next s)
    ∧ (∀ j, s.lines.driveFault = false → k.job = some j → k.state ≠ .faulted →
        ∃ t, exec (.driveFaultActive true) s = .next t ∧ faulted t j .knifeDriveFault
          ∧ t.lines = { s.lines with driveFault := true } ∧ OnlyChanges (.lines :: Part.ofRaise) s t)
    ∧ (s.lines.driveFault = false → k.job = none →
        ∃ t, exec (.driveFaultActive true) s = .next t ∧ pendingWith t .knifeDriveFault 0 ∧ t.knife = s.knife
          ∧ t.lines = { s.lines with driveFault := true } ∧ OnlyChanges (.lines :: Part.ofRaise) s t)
    ∧ (s.lines.driveFault = true → exec (.driveFaultActive true) s = .next s)
    ∧ exec (.driveFaultActive false) s = .next { s with lines := { s.lines with driveFault := false } }

/-- The cut, the ramp and the stir run in drive seconds. Each drive second advances the timer of the sequencer's job:
cut elapsed; ramp elapsed, with the speed cut + (stir - cut) × elapsed div ramp time, truncated toward zero; stir
elapsed at the stir speed. At the cut duration STIRRING / DWELL begins with both timers at 0 and the drive stopped
for its reversal; at the ramp time RUN begins at the stir speed; at the stir time, and at the ramp time with a stir
time of 0, MOULDING begins with the knives stopped and OUTLET on, and a VAT EMPTY line already active ends it at
once, with SHORT_MOULDING pending below a loads count. With DRIVE FAULT active the stir requested at the cut
duration faults the drive, and the KNIFE hold withdraws it. Out of RUNNING, or with another job or none, a drive
second changes nothing. It rests on log entries 4 (a command whose event cannot occur changes nothing), 5 (the row
of a follow-on event makes the check of the event that brings it), 23 (SHORT_MOULDING before the close), 24 (the
lane check and the REPORT in the closing event), 55 (an unlimited duration). [07_knife_drive.md 7.5 The cut and the
stir; 04_the_batch_sequencer.md 4.1 Steps, phases and the sequencer's state; 08_moulding_and_the_load_queue.md 8.2
The MOULDING step; 07_knife_drive.md 7.4 Turning and watching] -/
def Obligations.KnifeProfile : Prop :=
  (
  ∀ (c : RunConfig) (s : State) (r : Recipe) (j : Job),
    s.config = some c → batchRecipe c s = some r → s.knife.job = some j → s.knife.state = .running →
    s.knife.run = true → held s = false → s.seq.step.holdable = true →
    let k := s.knife
    let rampSpeed := fun e : Nat =>
      ((r.cutSpeed : Int) + (((r.stirSpeed : Int) - r.cutSpeed) * e).tdiv (duration r.rampTime)).toNat
    let reversing := fun (t : State) (cut : Nat) =>
      t.seq.step = .stirring ∧ t.seq.phase = .dwell ∧ t.knife.state = .dwell ∧ t.knife.run = false ∧ t.knife.speed = 0
        ∧ t.knife.offMs = 0 ∧ t.knife.cutElapsed = cut ∧ t.knife.rampElapsed = 0 ∧ t.knife.stirElapsed = 0
        ∧ t.knife.job.map Job.kind = some .stir ∧ OnlyChanges [.knife, .seq, .store] s t
    let atStirSpeed := fun (t : State) (ramp : Nat) =>
      t.seq.step = .stirring ∧ t.seq.phase = .run ∧ t.knife.state = .running ∧ t.knife.rampElapsed = ramp
        ∧ t.knife.speed = r.stirSpeed ∧ t.knife.job = some { kind := .stir, speed := r.stirSpeed }
        ∧ OnlyChanges [.knife, .seq, .store] s t
    let moulding := fun t : State =>
      t.seq.step = .moulding ∧ t.seq.outlet = true ∧ t.seq.fillerRequest = false ∧ t.queue = { s.queue with filled := 0 }
        ∧ t.knife.job = none ∧ t.knife.run = false ∧ t.knife.speed = 0 ∧ OnlyChanges [.knife, .seq, .store, .queue] s t
    let emptied := fun (t : State) (b : BatchRecord) =>
      t.seq = { s.seq with step := .idle, phase := .none, hold := HoldSet.clear, current := .none, outlet := false,
                           fillerRequest := false }
        ∧ t.queue = { s.queue with filled := 0 } ∧ t.knife.job = none ∧ t.knife.run = false ∧ t.knife.speed = 0
        ∧ (0 < r.loadsCount → isPending .shortMoulding t = true
            ∧ (isPending .shortMoulding s = false → ∃ a ∈ t.alerts.pending,
                a.kind = .shortMoulding ∧ a.detail = 0 ∧ a.step = .moulding ∧ a.batchNumber = b.number))
        ∧ (r.loadsCount = 0 → t.alerts = s.alerts)
        ∧ (HistorySound s → (t.store.history.getLast?.map fun x => let y := x.latest
            (y.number, y.made, y.pressed, y.outcome, y.laneClosed))
          = some (b.number, b.made, b.pressed,
              if b.laneClosed = false ∧ b.pressed = b.made then .done else .vatDone, b.laneClosed || b.pressed == b.made))
        ∧ OnlyChanges ([.queue, .store] ++ Part.ofRaise) s t
    let ends := fun t : State =>
      (s.lines.vatEmpty = false → moulding t) ∧ (∀ b, openRecord s = some b → s.lines.vatEmpty = true → emptied t b)
    let faults := fun (t : State) (cut : Nat) =>
      t.seq.step = .stirring ∧ t.seq.phase = .dwell ∧ t.knife.state = .stopped ∧ t.knife.job = none ∧ t.knife.run = false
        ∧ t.knife.speed = 0 ∧ t.knife.offMs = 0 ∧ t.knife.cutElapsed = cut ∧ t.knife.rampElapsed = 0
        ∧ t.knife.stirElapsed = 0 ∧ t.seq.hold.knife = true ∧ isPending .knifeDriveFault t = true
        ∧ OnlyChanges (.store :: Part.ofRaise) s t
    (j.kind = .fillStir ∨ j.kind = .mix → exec .driveSecond s = .next s)
    ∧ (j.kind = .cut → s.seq.step ≠ .cutting ∨ min 65535 (k.cutElapsed + 1) < duration r.cutDuration →
        exec .driveSecond s = .next { s with knife := { k with cutElapsed := min 65535 (k.cutElapsed + 1) } })
    ∧ (j.kind = .cut → s.seq.step = .cutting → k.reverse = .cut → s.lines.driveFault = false →
        (duration r.cutDuration ≤ min 65535 (k.cutElapsed + 1) →
          ∃ t, exec .driveSecond s = .next t ∧ reversing t (min 65535 (k.cutElapsed + 1)))
        ∧ (duration r.cutDuration ≤ k.cutElapsed →
            ∃ t, exec .cutDurationRun s = .next t ∧ reversing t k.cutElapsed)
        ∧ (k.cutElapsed < duration r.cutDuration → exec .cutDurationRun s = .next s))
    ∧ (j.kind = .cut → s.seq.step = .cutting → s.lines.driveFault = true →
        (duration r.cutDuration ≤ min 65535 (k.cutElapsed + 1) →
          ∃ t, exec .driveSecond s = .next t ∧ faults t (min 65535 (k.cutElapsed + 1)))
        ∧ (duration r.cutDuration ≤ k.cutElapsed → ∃ t, exec .cutDurationRun s = .next t ∧ faults t k.cutElapsed))
    ∧ (j.kind = .stir → s.seq.step = .stirring → s.seq.phase = .ramp → 0 < duration r.stirTime →
        let e := min 65535 (k.rampElapsed + 1)
        (e < duration r.rampTime →
          exec .driveSecond s = .next { s with knife := { k with
            rampElapsed := e, speed := rampSpeed e, job := some { kind := .stir, speed := rampSpeed e } } })
        ∧ (duration r.rampTime ≤ e → ∃ t, exec .driveSecond s = .next t ∧ atStirSpeed t e)
        ∧ (duration r.rampTime ≤ k.rampElapsed →
            ∃ t, exec .rampTimeRun s = .next t ∧ atStirSpeed t k.rampElapsed)
        ∧ (k.rampElapsed < duration r.rampTime → exec .rampTimeRun s = .next s))
    ∧ (j.kind = .stir → s.seq.step = .stirring → s.seq.phase = .ramp → duration r.stirTime = 0 →
        (min 65535 (k.rampElapsed + 1) < duration r.rampTime →
            let e := min 65535 (k.rampElapsed + 1)
            exec .driveSecond s = .next { s with knife := { k with
              rampElapsed := e, speed := rampSpeed e, job := some { kind := .stir, speed := rampSpeed e } } })
        ∧ (k.rampElapsed < duration r.rampTime → exec .rampTimeRun s = .next s)
        ∧ (duration r.rampTime ≤ min 65535 (k.rampElapsed + 1) → ∃ t, exec .driveSecond s = .next t ∧ ends t)
        ∧ (duration r.rampTime ≤ k.rampElapsed → ∃ t, exec .rampTimeRun s = .next t ∧ ends t))
    ∧ (j.kind = .stir → s.seq.step = .stirring → s.seq.phase = .run →
        let e := min 65535 (k.stirElapsed + 1)
        (e < duration r.stirTime →
          exec .driveSecond s = .next { s with knife := { k with
            stirElapsed := e, speed := r.stirSpeed, job := some { kind := .stir, speed := r.stirSpeed } } })
        ∧ (duration r.stirTime ≤ e → ∃ t, exec .driveSecond s = .next t ∧ ends t)
        ∧ (duration r.stirTime ≤ k.stirElapsed → ∃ t, exec .stirTimeRun s = .next t ∧ ends t)
        ∧ (k.stirElapsed < duration r.stirTime → exec .stirTimeRun s = .next s))
  )
  ∧ ∀ s : State, s.knife.state ≠ .running ∨ s.knife.job = none → exec .driveSecond s = .next s

/-- LOAD DONE edges, late loads and the end of moulding. In MOULDING a counted edge makes a load with the next sequence
at the tail of a queue of fewer than sixteen, counted in the record and its checkpoint, or at sixteen, and with the
sequence counter at its greatest value, an untracked load with LOAD_QUEUE_FULL pending; elsewhere it is a stray
load. The queue hold is active at fourteen. With a FREE head and an empty queue the load goes to the lowest FREE
head. The end figure, and VAT EMPTY going active in MOULDING, end moulding: OUTLET off, IDLE with no current batch,
the record the newest of the history as VAT_DONE, or DONE when its loads are all pressed; short of a loads count,
SHORT_MOULDING is pending. A queued load at its maximum wait becomes LATE, with LOAD_LATE pending. It rests on log
entries 4 (a command whose event cannot occur changes nothing), 5 (the row of a follow-on event makes the check of
the event that brings it), 23 (SHORT_MOULDING before the close), 24 (the lane check and the REPORT in the closing
event), 47 (the history write beside the checkpoint's). [08_moulding_and_the_load_queue.md 8.2 The MOULDING step;
08_moulding_and_the_load_queue.md 8.3 Holding the filler back; 08_moulding_and_the_load_queue.md 8.4 Waiting and
late loads; 04_the_batch_sequencer.md 4.10 Closing a batch; 09_press_heads.md 9.3 The press schedule] -/
def Obligations.LoadsAndMoulding : Prop :=
  ∀ (c : RunConfig) (s : State), s.config = some c →
    let edge := fun rising => { s with lines := { s.lines with loadDone := rising } }
    let q := s.queue
    let filled := min 24 (q.filled + 1)
    let made := fun b : BatchRecord => ({
      sequence := q.counter + 1, batchNumber := b.number, slot := b.slot, madeTime := stationSeconds s, waitedMs := 0,
      flags := { late := false, underpressure := false, guardAbort := false, estop := false } } : Load)
    let ended := fun (t : State) (b : BatchRecord) =>
      t.seq = { s.seq with step := .idle, phase := .none, hold := HoldSet.clear, current := .none, outlet := false,
                           fillerRequest := false }
        ∧ (HistorySound s → (t.store.history.getLast?.map fun x => let r := x.latest
            (r.number, r.made, r.pressed, r.outcome, r.laneClosed))
          = some (b.number, b.made, b.pressed,
              if b.laneClosed = false ∧ b.pressed = b.made then .done else .vatDone,
              b.laneClosed || b.pressed == b.made))
    (∀ rising, countsEdge c.lines.loadDone rising = false → exec (.loadDoneEdge rising) s = .next (edge rising))
    ∧ (∀ rising, countsEdge c.lines.loadDone rising = true → s.seq.step ≠ .moulding →
        ∃ t, exec (.loadDoneEdge rising) s = .next t ∧ t.queue = { q with stray := min 65535 (q.stray + 1) }
          ∧ t.lines = (edge rising).lines ∧ OnlyChanges [.lines, .queue, .press] s t)
    ∧ (∀ rising r b, countsEdge c.lines.loadDone rising = true → s.seq.step = .moulding → batchRecipe c s = some r →
        openRecord s = some b → q.loads.length < 16 → q.counter < 4294967295 → filled < endFigure r →
        ∃ t, exec (.loadDoneEdge rising) s = .next t
          ∧ t.queue.counter = q.counter + 1 ∧ t.queue.filled = filled ∧ t.queue.stray = q.stray
          ∧ openRecord t = some { b with made := b.made + 1 }
          ∧ t.store.checkpoint.latest = { lastNumber := s.seq.counter, record := some { b with made := b.made + 1 } }
          ∧ (freeHead s = none ∨ s.lines.guardOpen = true ∨ s.lines.estop = true →
              t.queue.loads = q.loads ++ [made b] ∧ t.queue.queueHold = decide (14 ≤ q.loads.length + 1))
          ∧ (∀ h, freeHead s = some h → s.lines.guardOpen = false → s.lines.estop = false → q.loads = [] →
              t.queue.loads = [] ∧ (t.head h).load = some (made b) ∧ (t.head h).occupied = true
                ∧ (t.store.headTable.get h).latest.occupied = true
                ∧ (let given : Head := { s.head h with
                      load := some (made b), target := 0, holdTimer := 0, faultSteps := 0, ventSteps := 0, under := false,
                      occupied := true }
                   t.head h = { given.enterRamp r 1 with
                      output := (t.head h).output, line := (t.head h).line, periodMs := (t.head h).periodMs })
                ∧ (∀ g, r.stage 1 = some g →
                    let begun := fun st : HeadState =>
                      ((t.head h).state, (t.head h).stage, (t.head h).target, (t.head h).accumulator, (t.head h).holdTimer,
                        (t.head h).faultSteps, (t.head h).under) = (st, 1, 0, 0, 0, 0, false)
                    (0 < g.pressure → begun .ramp) ∧ (g.pressure = 0 → 0 < duration g.hold → begun .hold)))
          ∧ OnlyChanges [.lines, .queue, .seq, .press, .air, .store] s t)
    ∧ (∀ rising r b, countsEdge c.lines.loadDone rising = true → s.seq.step = .moulding → batchRecipe c s = some r →
        openRecord s = some b → 16 ≤ q.loads.length ∨ 4294967295 ≤ q.counter → filled < endFigure r →
        ∃ t, exec (.loadDoneEdge rising) s = .next t ∧ t.queue.counter = q.counter ∧ t.queue.filled = filled
          ∧ (openRecord t).map (fun x => (x.made, x.untracked)) = some (b.made, min 255 (b.untracked + 1))
          ∧ isPending .loadQueueFull t = true
          ∧ (isPending .loadQueueFull s = false → ∃ a ∈ t.alerts.pending,
              a.kind = .loadQueueFull ∧ a.detail = min 255 (b.untracked + 1))
          ∧ OnlyChanges ([.lines, .queue, .press, .air, .store] ++ Part.ofRaise) s t)
    ∧ (∀ rising r b, countsEdge c.lines.loadDone rising = true → s.seq.step = .moulding → batchRecipe c s = some r →
        openRecord s = some b → q.loads.length < 16 → q.counter < 4294967295 → endFigure r ≤ filled →
        ∃ t, exec (.loadDoneEdge rising) s = .next t ∧ t.queue.counter = q.counter + 1
          ∧ ended t { b with made := b.made + 1 })
    ∧ (∀ rising r b, countsEdge c.lines.loadDone rising = true → s.seq.step = .moulding → batchRecipe c s = some r →
        openRecord s = some b → 16 ≤ q.loads.length ∨ 4294967295 ≤ q.counter → endFigure r ≤ filled →
        ∃ t, exec (.loadDoneEdge rising) s = .next t ∧ t.queue.counter = q.counter ∧ t.queue.filled = filled
          ∧ isPending .loadQueueFull t = true ∧ ended t b)
    ∧ (∀ r b, s.seq.step = .moulding → batchRecipe c s = some r → openRecord s = some b → endFigure r ≤ q.filled →
        ∃ t, exec .mouldingEnd s = .next t ∧ ended t b ∧ OnlyChanges [.seq, .store, .link] s t)
    ∧ (s.seq.step ≠ .moulding → exec .mouldingEnd s = .next s)
    ∧ (∀ r b, s.seq.step = .moulding → batchRecipe c s = some r → openRecord s = some b → s.lines.vatEmpty = false →
        ∃ t, exec (.vatEmptyActive true) s = .next t ∧ ended t b
          ∧ (q.filled < r.loadsCount → isPending .shortMoulding t = true)
          ∧ (r.loadsCount ≤ q.filled → t.alerts = s.alerts) ∧ t.queue = q ∧ t.press = s.press)
    ∧ (∀ level, level = false ∨ s.seq.step ≠ .moulding ∨ s.lines.vatEmpty = true →
        exec (.vatEmptyActive level) s = .next { s with lines := { s.lines with vatEmpty := level } })
    ∧ (∀ n, (∃ l ∈ q.loads, l.sequence = n ∧ l.lateDue c = true) →
        let late := fun l : Load => if l.sequence = n then { l with flags := { l.flags with late := true } } else l
        ∃ t, exec (.loadLate n) s = .next t ∧ t.queue = { q with loads := q.loads.map late }
          ∧ isPending .loadLate t = true ∧ OnlyChanges (.queue :: Part.ofRaise) s t)
    ∧ (∀ n, (∀ l ∈ q.loads, l.sequence = n → l.lateDue c = false) → exec (.loadLate n) s = .next s)

/-- A drive sample measures, regulates, watches the hold and times the vent. Every fitted head takes (raw × 8000)
div 4095 as its pressure and, in RAMP and HOLD, target × Kf div 256 plus (target - pressure) × Kp div 64 within 0 to
1000 as its duty, else 0. The hold threshold is the stage pressure less the hold band, and there is none where the
band reaches it. In an unfrozen HOLD a pressure at the threshold or above clears the fault timer and the mark, a
lower one advances it, and at the hold-fault time under-pressure is detected: the mark, the UNDERPRESSURE flag, the
fail count once for a load, the pending-out mark at the fail limit, and HOLD_UNDERPRESSURE pending. A vent ends
below 20 kPa or after 30 s. At the end of an output period the line takes the duty of the buffer under the head's
stage. It rests on log entries 4 (a command whose event cannot occur changes nothing), 5 (the row of a follow-on
event makes the check of the event that brings it), 42 (a change into FORCED_OFF is one of the stage in effect).
[09_press_heads.md 9.2 Reading pressure and driving the valve; 09_press_heads.md 9.6 Holding a stage;
09_press_heads.md 9.7 Taking a head out of service; 09_press_heads.md 9.8 Venting and unloading] -/
def Obligations.DriveSamples : Prop :=
  ∀ (c : RunConfig) (s : State), s.config = some c →
    let detected := fun (t : State) (h : HeadNo) =>
      let hd := s.head h
      let fails := min 255 (hd.failCount + 1)
      (t.head h).under = true ∧ (t.head h).faultSteps = 0
        ∧ (t.head h).load = hd.load.map (fun l => { l with flags := { l.flags with underpressure := true } })
        ∧ (hd.loadUnder = true → (t.head h).failCount = hd.failCount ∧ (t.head h).pendingOut = hd.pendingOut)
        ∧ (hd.loadUnder = false → (t.head h).failCount = fails
            ∧ (t.head h).pendingOut = (hd.pendingOut || decide (c.press.failLimit ≤ fails))
            ∧ (t.store.headTable.get h).latest = { failCount := fails, occupied := hd.occupied })
        ∧ isPending .holdUnderpressure t = true
    (∀ raw1 raw2 raw3 raw4 : Raw,
      ∃ t, exec (.driveSample raw1 raw2 raw3 raw4) s = .next t
        ∧ t.lines.pressure = { h1 := raw1, h2 := raw2, h3 := raw3, h4 := raw4 }
        ∧ (∀ h,
          let hd := s.head h
          let new := t.head h
          let p := (t.lines.pressure.get h).toNat * 8000 / 4095
          let unfrozen := c.press.guardVents = true ∨ s.lines.guardOpen = false
          (hd.state = .unfitted → new = hd)
            ∧ (hd.state ≠ .unfitted → new.pressure = p ∧ new.target = hd.target ∧ new.stage = hd.stage
                ∧ new.holdTimer = hd.holdTimer ∧ new.accumulator = hd.accumulator)
            ∧ (hd.state = .ramp ∨ hd.state = .hold → new.state = hd.state ∧ new.duty =
                (min 1000 (max 0 ((hd.target * c.press.kf / 256 : Nat)
                  + (((hd.target : Int) - p) * c.press.kp).tdiv 64))).toNat)
            ∧ (hd.state = .free ∨ hd.state = .vent ∨ hd.state = .unload ∨ hd.state = .out → new.duty = 0)
            ∧ (hd.state = .vent → new.ventSteps = min 150 (hd.ventSteps + 1) ∧ new.load = hd.load
                ∧ new.state = if p < 200 ∨ 149 ≤ hd.ventSteps then .unload else .vent)
            ∧ (∀ limit, hd.state = .hold → unfrozen → hd.threshold c = some limit →
                (limit ≤ p → c.press.holdFaultTime ≠ 0 → new.faultSteps = 0 ∧ new.under = false)
                ∧ (p < limit → hd.under = true → new.faultSteps = hd.faultSteps ∧ new.under = true)
                ∧ (p < limit → hd.under = false → min 600 (hd.faultSteps + 1) < c.press.holdFaultTime * 5 →
                    new.faultSteps = min 600 (hd.faultSteps + 1) ∧ new.under = false ∧ new.load = hd.load)
                ∧ (p < limit → hd.under = false → c.press.holdFaultTime * 5 ≤ min 600 (hd.faultSteps + 1) →
                    detected t h))
            ∧ (hd.state = .hold → ¬ unfrozen → new.faultSteps = hd.faultSteps ∧ new.under = hd.under)
            ∧ (∀ g, hd.stageNow c = some g → hd.threshold c =
                if g.pressure ≤ c.press.holdBand then none else some ((g.pressure - c.press.holdBand) * 10)))
        ∧ OnlyChanges ([.lines, .press, .air, .store] ++ Part.ofRaise) s t)
    ∧ (∀ h, (s.head h).state = .hold → frozen c s = false → (s.head h).under = false →
        c.press.holdFaultTime * 5 ≤ (s.head h).faultSteps →
        ∃ t, exec (.holdUnderpressure h) s = .next t ∧ detected t h
          ∧ (∀ g, g ≠ h → t.head g = s.head g) ∧ OnlyChanges ([.press, .store] ++ Part.ofRaise) s t)
    ∧ (∀ h, (s.head h).state ≠ .unfitted → (s.head h).state ≠ .out → (s.head h).pendingOut = false →
        c.press.failLimit ≤ (s.head h).failCount →
        exec (.headPendingOut h) s = .next (noteStatus s (s.setHead h { s.head h with pendingOut := true })))
    ∧ (∀ h, (s.head h).state = .vent → 1 ≤ (s.head h).ventSteps →
        (s.head h).pressure < 200 ∨ 150 ≤ (s.head h).ventSteps →
        exec (.ventEnd h) s = .next (noteStatus s (s.setHead h { s.head h with state := .unload })))
    ∧ (∀ h, (s.head h).state ≠ .vent → exec (.ventEnd h) s = .next s)
    ∧ (∀ h, let hd := s.head h
        let inverted := c.lines.inverted.get h
        let taken := fun x : Head => exec (.outputPeriodEnd h) s = .next (s.setHead h { x with periodMs := 0 })
        (hd.state = .unfitted → taken { hd with output := .released })
          ∧ (hd.state = .ramp ∨ hd.state = .hold → s.lines.estop = false →
              taken (if inverted then { hd with output := .inverted, line := 1000 - hd.duty }
                else { hd with output := .normal, line := hd.duty }))
          ∧ (hd.state ≠ .unfitted → (hd.state ≠ .ramp ∧ hd.state ≠ .hold) ∨ s.lines.estop = true →
              taken { hd with output := .forcedOff, line := if inverted then 1000 else 0 }))

/-- A press second steps the ramps within the air grant and times the holds. The AIR claim asks for the ramp air of
each rising head, to at most 4000, with the ramp air of one as its floor and the highest press level among them, and
is presented again in an event that changes the rising set. The served set is the first of the rising set in
ascending load sequence, as many as the AIR grant divided by the ramp air allows. The number of heads whose rising
ramp target advances never exceeds the AIR grant divided by the ramp air per head, rounded down (a ramp air of 0,
outside its range, leaves that figure free). A falling head, and a rising head of the served set, move their target
toward the stage pressure by the accumulator div 60, ten times the rate added to it, and keep the remainder while
they have not arrived. A rising head that is not served, and a frozen head, keep target and accumulator. A hold
advances its timer; at the stage hold time the head enters the next stage, or VENT at the end of its schedule, where
the drive sample of that second may find it vented. A stage is entered in RAMP with accumulator 0; at its pressure
already it is in HOLD at once, and a hold time of 0 passes on at once, to the next stage or to VENT. The press
second is a drive sample too, of the heads as it leaves them: each fitted head takes its pressure, its duty from its
target, its served mark and, in VENT, its vent timer; in an unfrozen HOLD, also one just entered, the under-pressure
comparison is made as DriveSamples says, and a frozen one keeps its fault timer and mark. It rests on log entries 4
(a command whose event cannot occur changes nothing), 5 (the row of a follow-on event makes the check of the event
that brings it), 25 (the AIR claim presented once in an event), 42 (a change into FORCED_OFF is one of the stage in
effect), 61 (the stage index in VENT), 64 (a ramp air of 0). [09_press_heads.md 9.2 Reading pressure and driving the
valve; 09_press_heads.md 9.3 The press schedule; 09_press_heads.md 9.4 Ramps; 09_press_heads.md 9.5 The AIR claim
and the served set; 09_press_heads.md 9.6 Holding a stage; 09_press_heads.md 9.7 Taking a head out of service;
09_press_heads.md 9.8 Venting and unloading; 09_press_heads.md 9.9 The guard] -/
def Obligations.PressSchedule : Prop :=
  ∀ (c : RunConfig) (s : State), s.config = some c →
    let fields := fun x : Head => (x.state, x.stage, x.target, x.accumulator, x.holdTimer)
    let servedHeads :=
      if c.press.rampAir = 0 then Config.servedDivZero s.press.airGrant else s.press.airGrant / c.press.rampAir
    (∀ raw1 raw2 raw3 raw4 : Raw,
      ∃ t, exec (.pressSecond raw1 raw2 raw3 raw4) s = .next t
        ∧ (headNos.filter fun h => (s.head h).rises c && decide ((s.head h).target < (t.head h).target)).length
            ≤ servedHeads
        ∧ (frozen c s = true → ∀ h, (s.head h).state = .ramp ∨ (s.head h).state = .hold →
            fields (t.head h) = fields (s.head h))
        ∧ (frozen c s = false → ∀ h r g,
            let hd := s.head h
            let new := t.head h
            let sum := hd.accumulator + g.rate * 10
            hd.recipe c = some r → r.stage hd.stage = some g →
            let pressure := (t.lines.pressure.get h).toNat * 8000 / 4095
            let stageDone := fun x : Head =>
              if hd.stage < r.stageCount then x.enterRamp r (hd.stage + 1) else { x with state := .vent, ventSteps := 0 }
            let sampled := fun x : Head =>
              (if x.state = .vent ∧ pressure < 200 then HeadState.unload else x.state, x.stage, x.target, x.accumulator,
                x.holdTimer)
            (hd.state = .ramp → hd.target < g.pressure * 10 → h ∉ servedSet c s → fields new = fields hd)
            ∧ (hd.state = .ramp → h ∈ servedSet c s → hd.target + sum / 60 < g.pressure * 10 →
                fields new = (.ramp, hd.stage, hd.target + sum / 60, sum % 60, hd.holdTimer))
            ∧ (hd.state = .ramp → h ∈ servedSet c s → g.pressure * 10 ≤ hd.target + sum / 60 → 0 < duration g.hold →
                fields new = (.hold, hd.stage, g.pressure * 10, 0, 0))
            ∧ (hd.state = .ramp → g.pressure * 10 + sum / 60 < hd.target →
                fields new = (.ramp, hd.stage, hd.target - sum / 60, sum % 60, hd.holdTimer))
            ∧ (hd.state = .ramp → g.pressure * 10 < hd.target → hd.target ≤ g.pressure * 10 + sum / 60 →
                0 < duration g.hold → fields new = (.hold, hd.stage, g.pressure * 10, 0, 0))
            ∧ (r.stages.length ≤ 6 → hd.state = .ramp → duration g.hold = 0 →
                (h ∈ servedSet c s ∧ g.pressure * 10 ≤ hd.target + sum / 60)
                  ∨ (g.pressure * 10 < hd.target ∧ hd.target ≤ g.pressure * 10 + sum / 60) →
                fields new = sampled (stageDone { hd with target := g.pressure * 10, accumulator := 0, holdTimer := 0 }))
            ∧ (hd.state = .hold → min 37800 (hd.holdTimer + 1) < duration g.hold →
                fields new = (.hold, hd.stage, hd.target, hd.accumulator, min 37800 (hd.holdTimer + 1)))
            ∧ (∀ next, hd.state = .hold → duration g.hold ≤ min 37800 (hd.holdTimer + 1) → hd.stage < r.stageCount →
                r.stage (hd.stage + 1) = some next → next.pressure * 10 ≠ hd.target →
                (new.state, new.stage, new.target, new.accumulator) = (.ramp, hd.stage + 1, hd.target, 0))
            ∧ (∀ next, hd.state = .hold → duration g.hold ≤ min 37800 (hd.holdTimer + 1) → hd.stage < r.stageCount →
                r.stage (hd.stage + 1) = some next → next.pressure * 10 = hd.target → 0 < duration next.hold →
                fields new = (.hold, hd.stage + 1, hd.target, 0, 0))
            ∧ (hd.state = .hold → duration g.hold ≤ min 37800 (hd.holdTimer + 1) → r.stageCount ≤ hd.stage →
                new.state = (if pressure < 200 then .unload else .vent) ∧ new.ventSteps = 1 ∧ new.stage = hd.stage
                  ∧ new.target = hd.target ∧ new.load = hd.load ∧ new.duty = 0 ∧ new.output = .forcedOff)
            ∧ (hd.state = .hold → duration g.hold ≤ min 37800 (hd.holdTimer + 1) →
                fields new = sampled (stageDone { hd with holdTimer := min 37800 (hd.holdTimer + 1) })))
        ∧ t.lines.pressure = { h1 := raw1, h2 := raw2, h3 := raw3, h4 := raw4 }
        ∧ (∀ h,
            let hd := s.head h
            let new := t.head h
            let p := (t.lines.pressure.get h).toNat * 8000 / 4095
            let unfrozen := c.press.guardVents = true ∨ s.lines.guardOpen = false
            let stays := hd.state = .hold ∧ new.stage = hd.stage
            let steps := if stays then hd.faultSteps else 0
            let marked := if stays then hd.under else false
            let fails := min 255 (hd.failCount + 1)
            let unfaulted := new.load = hd.load ∧ new.failCount = hd.failCount ∧ new.pendingOut = hd.pendingOut
            (hd.state = .unfitted → new = { hd with served := false })
              ∧ (hd.state ≠ .unfitted → new.pressure = p ∧ new.served = decide (h ∈ servedSet c s))
              ∧ (new.state = .ramp ∨ new.state = .hold → new.duty =
                  (min 1000 (max 0 ((new.target * c.press.kf / 256 : Nat)
                    + (((new.target : Int) - p) * c.press.kp).tdiv 64))).toNat)
              ∧ (new.state ≠ .unfitted → new.state ≠ .ramp → new.state ≠ .hold → new.duty = 0)
              ∧ (new.state ≠ .hold → unfaulted)
              ∧ (hd.state = .vent → fields { new with state := .vent } = fields hd
                  ∧ new.ventSteps = min 150 (hd.ventSteps + 1)
                  ∧ new.state = if p < 200 ∨ 149 ≤ hd.ventSteps then .unload else .vent)
              ∧ (hd.state = .ramp ∨ hd.state = .hold → new.state = .vent ∨ new.state = .unload →
                  new.ventSteps = 1 ∧ (new.state = .unload ↔ p < 200))
              ∧ (hd.state = .free ∨ hd.state = .unload ∨ hd.state = .out → fields new = fields hd)
              ∧ (∀ g, new.state = .hold → unfrozen → new.stageNow c = some g →
                  let limit := (g.pressure - c.press.holdBand) * 10
                  (g.pressure ≤ c.press.holdBand → marked = true ∨ steps < c.press.holdFaultTime * 5 →
                    new.faultSteps = steps ∧ new.under = marked ∧ unfaulted)
                  ∧ (c.press.holdBand < g.pressure → limit ≤ p → c.press.holdFaultTime ≠ 0 →
                      new.faultSteps = 0 ∧ new.under = false ∧ unfaulted)
                  ∧ (c.press.holdBand < g.pressure → p < limit → marked = true →
                      new.faultSteps = steps ∧ new.under = true ∧ unfaulted)
                  ∧ (c.press.holdBand < g.pressure → p < limit → marked = false →
                      min 600 (steps + 1) < c.press.holdFaultTime * 5 →
                      new.faultSteps = min 600 (steps + 1) ∧ new.under = false ∧ unfaulted)
                  ∧ (c.press.holdBand < g.pressure → p < limit → marked = false →
                      c.press.holdFaultTime * 5 ≤ min 600 (steps + 1) →
                      new.under = true ∧ new.faultSteps = 0
                        ∧ new.load = hd.load.map (fun l => { l with flags := { l.flags with underpressure := true } })
                        ∧ (hd.loadUnder = true → new.failCount = hd.failCount ∧ new.pendingOut = hd.pendingOut)
                        ∧ (hd.loadUnder = false → new.failCount = fails
                            ∧ new.pendingOut = (hd.pendingOut || decide (c.press.failLimit ≤ fails))
                            ∧ (t.store.headTable.get h).latest = { failCount := fails, occupied := hd.occupied })
                        ∧ isPending .holdUnderpressure t = true))
              ∧ (new.state = .hold → ¬ unfrozen →
                  new.faultSteps = hd.faultSteps ∧ new.under = hd.under ∧ unfaulted))
        ∧ OnlyChanges ([.lines, .press, .air, .store] ++ Part.ofRaise) s t)
    ∧ (∀ (r : Recipe) (n : Nat) (g : Stage) (hd : Head), r.stages.length ≤ 6 → r.stage n = some g →
        let entered := hd.enterRamp r n
        let holding := { hd with stage := n, accumulator := 0, holdTimer := 0, faultSteps := 0, under := false }
        (g.pressure * 10 ≠ hd.target → entered = { hd with state := .ramp, stage := n, accumulator := 0 })
        ∧ (g.pressure * 10 = hd.target →
            (0 < duration g.hold → entered = { holding with state := .hold })
            ∧ (duration g.hold = 0 → n < r.stageCount → entered = holding.enterRamp r (n + 1))
            ∧ (duration g.hold = 0 → r.stageCount ≤ n → entered = { holding with state := .vent, ventSteps := 0 })))
    ∧ (let rising := risingSet c s
        let seq := fun h => (s.head h).loadSequence
        (∀ h, h ∈ rising ↔ ¬ (c.press.guardVents = false ∧ s.lines.guardOpen = true) ∧ (s.head h).state = .ramp
          ∧ ∃ g, (s.head h).stageNow c = some g ∧ (s.head h).target < g.pressure * 10)
        ∧ ((rising.map seq).Nodup →
            (servedSet c s).length = min servedHeads rising.length
              ∧ (∀ h, h ∈ servedSet c s → h ∈ rising) ∧ ((servedSet c s).map seq).Pairwise (· < ·)
              ∧ (∀ h k, h ∈ servedSet c s → k ∈ rising → k ∉ servedSet c s → seq h < seq k))
        ∧ presentAir c s = presentClaim .air ((rising.map fun h => (s.head h).pressLevel c).foldl max 0)
            (min 4000 (c.press.rampAir * rising.length)) c.press.rampAir s
        ∧ ∀ before : State, (closePress c before s).air =
            if risingSet c before = rising then s.air else (presentAir c s).air)
    ∧ (∀ h r g, (s.head h).state = .hold → frozen c s = false → (s.head h).recipe c = some r →
        r.stage (s.head h).stage = some g → duration g.hold ≤ (s.head h).holdTimer →
        (r.stageCount ≤ (s.head h).stage →
          ∃ t, exec (.stageHoldEnd h) s = .next t ∧ (t.head h).state = .vent ∧ (t.head h).ventSteps = 0
            ∧ (t.head h).load = (s.head h).load ∧ (t.head h).output = .forcedOff ∧ OnlyChanges [.press, .air] s t)
        ∧ (∀ next, (s.head h).stage < r.stageCount → r.stage ((s.head h).stage + 1) = some next →
            next.pressure * 10 ≠ (s.head h).target →
            ∃ t, exec (.stageHoldEnd h) s = .next t ∧ (t.head h).state = .ramp
              ∧ (t.head h).stage = (s.head h).stage + 1 ∧ (t.head h).target = (s.head h).target
              ∧ (t.head h).accumulator = 0 ∧ OnlyChanges [.press, .air] s t)
        ∧ (∀ next, (s.head h).stage < r.stageCount → r.stage ((s.head h).stage + 1) = some next →
            next.pressure * 10 = (s.head h).target →
            ∃ t, exec (.stageHoldEnd h) s = .next t
              ∧ (0 < duration next.hold → fields (t.head h) = (.hold, (s.head h).stage + 1, (s.head h).target, 0, 0))
              ∧ fields (t.head h) = fields ((s.head h).enterRamp r ((s.head h).stage + 1))
              ∧ OnlyChanges [.press, .air] s t))
    ∧ (∀ h, (s.head h).state ≠ .hold → exec (.stageHoldEnd h) s = .next s)

/-- Unloading a head, and the guard. The button of a head in UNLOAD takes its load off: occupied mark clear and written,
the load counted as pressed, and flagged if it carries a flag, in the open record of its batch, or else in its
history record, which is closed on the lane, as DONE if it was VAT_DONE, with its REPORT, once as many loads are
pressed as were made; a pending-out head goes OUT with HEAD_OUT pending, another goes FREE, and the assignment check
follows, so the oldest queued load goes to the lowest FREE head; with nothing to assign it stays so. While the guard
is closed and the ESTOP line inactive an assignment gives the oldest loads, as many as there are FREE heads for, to
the FREE heads in ascending order, and writes the heads' records; each begins its schedule in stage 1 with target,
accumulator and timers 0 and its under-pressure mark clear, in RAMP or, at a stage pressure of 0, in HOLD
(PressSchedule has a hold time of 0 besides); else it gives none. In any other state the button is ignored. The
guard opening vents the heads in RAMP and HOLD in guard mode VENT, with their loads flagged GUARD_ABORT and the kind
pending, and in mode HOLD drops the AIR claim of its rising heads; closing, FREE heads take queued loads. It rests
on log entries 4 (a command whose event cannot occur changes nothing), 24 (the lane check and the REPORT in the
closing event), 25 (the AIR claim presented once in an event), 42 (a change into FORCED_OFF is one of the stage in
effect). [09_press_heads.md 9.8 Venting and unloading; 09_press_heads.md 9.9 The guard;
08_moulding_and_the_load_queue.md 8.5 Handing loads to heads; 04_the_batch_sequencer.md 4.10 Closing a batch;
09_press_heads.md 9.3 The press schedule] -/
def Obligations.UnloadAndGuard : Prop :=
  (
  ∀ (c : RunConfig) (s : State), s.config = some c →
    let inHistory := fun (n : Nat) (x : State) => (x.store.history.find? fun y => y.latest.number = n).map Slot.latest
    let guardOpened := { s with lines := { s.lines with guardOpen := true } }
    let guardClosed := { s with lines := { s.lines with guardOpen := false } }
    let flagged := fun l : Load => { l with flags := { l.flags with guardAbort := true } }
    (∀ h, (s.head h).state ≠ .unload → exec (.headUnload h) s = .next s)
    ∧ (∀ h, (s.head h).state = .unload →
        ∃ t, exec (.headUnload h) s = .next t
          ∧ ((s.head h).pendingOut = true → (t.head h).state = .out ∧ (t.head h).pendingOut = false
              ∧ (t.head h).load = none ∧ (t.head h).occupied = false ∧ isPending .headOut t = true ∧ t.queue = s.queue
              ∧ (t.head h).stage = 0 ∧ (t.head h).target = 0)
          ∧ ((s.head h).pendingOut = false →
              let x := assign c (s.setHead h { s.head h with
                load := none, occupied := false, stage := 0, target := 0, state := .free })
              t.queue = x.queue
                ∧ (∀ g, t.head g = { x.head g with
                    output := (t.head g).output, line := (t.head g).line, periodMs := (t.head g).periodMs })
                ∧ (t.store.headTable.get h).latest = { failCount := (s.head h).failCount, occupied := (t.head h).occupied }
                ∧ (∀ l, s.queue.loads.head? = some l → s.lines.guardOpen = false → s.lines.estop = false →
                    (∀ g, g < h → (s.head g).state ≠ .free) → (t.head h).load = some l)
                ∧ (∀ l g, s.queue.loads.head? = some l → s.lines.guardOpen = false → s.lines.estop = false →
                    g < h → freeHead s = some g → (t.head g).load = some l))
          ∧ ((s.head h).pendingOut = false → s.queue.loads = [] ∨ s.lines.guardOpen = true ∨ s.lines.estop = true →
              (t.head h).state = .free ∧ (t.head h).load = none ∧ (t.head h).occupied = false ∧ t.queue = s.queue
                ∧ (t.store.headTable.get h).latest = { failCount := (s.head h).failCount, occupied := false })
          ∧ (∀ l b, (s.head h).load = some l → openRecord s = some b → b.number = l.batchNumber →
              (openRecord t).map (fun x => (x.number, x.pressed, x.flagged))
                = some (b.number, b.pressed + 1, b.flagged + l.flags.any.toNat))
          ∧ (∀ l r, (s.head h).load = some l → (∀ b, openRecord s = some b → b.number ≠ l.batchNumber) →
              inHistory l.batchNumber s = some r →
              let counted := { r with pressed := r.pressed + 1, flagged := r.flagged + l.flags.any.toNat }
              let closed := { counted with
                outcome := if r.outcome = .vatDone then .done else r.outcome, laneClosed := true }
              let finished := r.laneClosed = false ∧ r.pressed + 1 = r.made
              inHistory l.batchNumber t = some (if finished then closed else counted)
                ∧ ((s.head h).pendingOut = false → openRecord t = openRecord s)
                ∧ ((s.head h).pendingOut = false → finished → t.link =
                    { (offer s { kind := .report, dest := 0, body := closed.reportBody }).link with
                      changed := t.link.changed })
                ∧ ((s.head h).pendingOut = false → ¬ finished → t.link = { s.link with changed := t.link.changed }))
          ∧ ((s.head h).load = none → (openRecord t).map BatchRecord.pressed = (openRecord s).map BatchRecord.pressed)
          ∧ OnlyChanges ([.queue, .press, .air, .store] ++ Part.ofRaise) s t)
    ∧ (s.lines.guardOpen = false → c.press.guardVents = true →
        ∃ t, exec .guardOpen s = .next t ∧ t.lines = guardOpened.lines ∧ t.queue = s.queue
          ∧ (∀ h, ((s.head h).state = .ramp ∨ (s.head h).state = .hold →
                (t.head h).state = .vent ∧ (t.head h).ventSteps = 0 ∧ (t.head h).load = (s.head h).load.map flagged
                  ∧ (t.head h).output = .forcedOff ∧ isPending .guardAbort t = true)
              ∧ ((s.head h).state ≠ .ramp → (s.head h).state ≠ .hold →
                  (t.head h).state = (s.head h).state ∧ (t.head h).load = (s.head h).load))
          ∧ OnlyChanges ([.lines, .press, .air] ++ Part.ofRaise) s t)
    ∧ (s.lines.guardOpen = false → c.press.guardVents = false →
        ∃ t, exec .guardOpen s = .next t ∧ t.lines = guardOpened.lines
          ∧ (∀ h, (t.head h).state = (s.head h).state ∧ (t.head h).load = (s.head h).load
              ∧ (t.head h).target = (s.head h).target)
          ∧ (risingSet c s ≠ [] → t.air.own = none ∧ t.air.grant = 0)
          ∧ OnlyChanges [.lines, .press, .air] s t)
    ∧ (s.lines.guardOpen = true → exec .guardOpen s = .next s)
    ∧ (s.lines.guardOpen = true →
        exec .guardClose s = .next (noteStatus s (closePress c s (assign c guardClosed))))
    ∧ (s.lines.guardOpen = false → exec .guardClose s = .next s)
  )
  ∧ (
    ∀ (c : RunConfig) (s : State),
      let free := headNos.filter fun h => (s.head h).state = .free
      let n := min s.queue.loads.length free.length
      let t := assign c s
      (s.lines.guardOpen = true ∨ s.lines.estop = true → t = s)
        ∧ (s.lines.guardOpen = false → s.lines.estop = false →
            t.queue = { s.queue with
                loads := s.queue.loads.drop n
                queueHold := if n = 0 then s.queue.queueHold else decide (14 ≤ s.queue.loads.length - n) }
              ∧ (∀ (k : Nat) l, s.queue.loads[k]? = some l → ∀ h, free[k]? = some h →
                  (t.head h).load = some l ∧ (t.head h).state ≠ .free ∧ (t.head h).occupied = true
                    ∧ (t.store.headTable.get h).latest = { failCount := (s.head h).failCount, occupied := true }
                    ∧ (∀ r g, c.recipe l.slot = some r → r.stage 1 = some g →
                        let begun := fun st : HeadState =>
                          ((t.head h).state, (t.head h).stage, (t.head h).target, (t.head h).accumulator,
                            (t.head h).holdTimer, (t.head h).faultSteps, (t.head h).ventSteps, (t.head h).under)
                            = (st, 1, 0, 0, 0, 0, 0, false)
                        (0 < g.pressure → begun .ramp) ∧ (g.pressure = 0 → 0 < duration g.hold → begun .hold)
                          ∧ t.head h = ({ s.head h with
                              load := some l, target := 0, holdTimer := 0, faultSteps := 0, ventSteps := 0, under := false,
                              occupied := true } : Head).enterRamp r 1))
              ∧ (∀ h, h ∉ free.take n → t.head h = s.head h)
              ∧ OnlyChanges [.queue, .press, .store] s t)
  )

/-- A raise makes its record and does what its level asks, and a repeat is counted. A kind not pending gets one record,
in the order of Table 10-1, with its level in force, the current batch number, the vat step, the detail, the station
seconds and a repeat count of 0; at level 1 or above an ALERT frame with these is offered, at level 2 or 3 the
beacon is judged, and at level 3 ALERT joins the hold-reason set in a holdable step, recording the first fault step
where none is recorded. A kind that is pending counts a repeat, to at most 255; no frame is built and the beacon
stays; a repeat of a level-3 kind adds ALERT again in a holdable step. Below level 3, and outside a holdable step,
nothing of the vat changes. [10_alerts.md 10.1 Kinds and levels; 10_alerts.md 10.2 The pending set; 10_alerts.md
10.3 The beacon; 04_the_batch_sequencer.md 4.2 The hold-reason set] -/
def Obligations.AlertRaised : Prop :=
  ∀ (c : RunConfig) (k : AlertKind) (detail : Nat) (s : State),
    let t := raise c k detail s
    let level := max (c.alertLevels.getD (k.number - 1) 0) k.minLevel
    let record : AlertRecord :=
      { kind := k, level := level, batchNumber := batchNumber s, step := s.seq.step, detail := detail,
        firstRaised := stationSeconds s, repeats := 0 }
    let frame : TxFrame :=
      { kind := .alert, dest := 0,
        body := [byte k.number, byte level] ++ be16 (batchNumber s) ++ [byte s.seq.step.code] ++ be16 detail }
    let counted := fun r : AlertRecord => if r.kind = k then { r with repeats := min 255 (r.repeats + 1) } else r
    let held3 := s.seq.step.holdable = true →
      t.seq.hold = { s.seq.hold with alert := true }
        ∧ (∀ b, openRecord s = some b → s.seq.hold.alert = false →
            openRecord t = some { b with firstFault := b.firstFault.or (some s.seq.step) })
        ∧ (s.seq.hold.alert = true → t.seq = s.seq)
    (isPending k s = true →
      t.alerts = { s.alerts with pending := s.alerts.pending.map counted } ∧ t.link = s.link
        ∧ highestLevel t = highestLevel s
        ∧ ((∃ r ∈ s.alerts.pending, r.kind = k ∧ r.level = 3) → held3)
        ∧ ((∀ r ∈ s.alerts.pending, r.kind = k → r.level ≠ 3) → OnlyChanges [.alerts] s t))
    ∧ (isPending k s = false →
        (∀ x, x ∈ t.alerts.pending ↔ x = record ∨ x ∈ s.alerts.pending)
        ∧ ((s.alerts.pending.map fun r => r.kind.number).Pairwise (· < ·) →
            (t.alerts.pending.map fun r => r.kind.number).Pairwise (· < ·))
        ∧ (level = 0 → t.link = s.link)
        ∧ (1 ≤ level → t.link = (offer s frame).link)
        ∧ (level < 2 → t.alerts.beacon = s.alerts.beacon)
        ∧ (level = 2 ∨ level = 3 → t.alerts.beacon =
            if t.alerts.pending.any (fun r => r.level == 3) then .fast else .slow)
        ∧ (level = 3 → held3)
        ∧ (level ≠ 3 → OnlyChanges [.alerts, .link] s t))
    ∧ (s.seq.step.holdable = false → OnlyChanges [.alerts, .link] s t)
    ∧ OnlyChanges Part.ofRaise s t

/-- An ACK from the link or the port removes what it names. An argument of 0 empties the pending set, and that of a
pending kind removes its record; the beacon is judged afresh and the hold-reason set stays. A kind not pending, and
an argument of 20 or above, changes nothing. The order is answered ACCEPTED or REFUSED_STATE, and not in MUTE; the
setup command DONE, FAILED EMPTY for a kind not pending, FAILED RANGE for 20 or above and FAILED LENGTH for a body
of another size. The RANGE answer's body byte is open (log 16). [10_alerts.md 10.3 The beacon; 10_alerts.md 10.4
Acknowledgement; 01_the_make_room_link.md Orders and replies] -/
def Obligations.Acknowledged : Prop :=
  ∀ s : State,
    let acked := fun (arg : Byte) (t : State) =>
      t.alerts.pending = (if arg.toNat = 0 then [] else s.alerts.pending.filter fun r => r.kind.number ≠ arg.toNat)
        ∧ t.alerts.beacon =
            if t.alerts.pending.any (fun r => r.level == 3) then .fast
            else if t.alerts.pending.any (fun r => r.level == 2) then .slow else .off
    let found := fun arg : Byte => arg.toNat = 0 ∨ ∃ r ∈ s.alerts.pending, r.kind.number = arg.toNat
    let answers := fun (t : State) (sender tag : Byte) (v : Verdict) =>
      t.link = { (offer s { kind := .reply, dest := sender.toNat, body := [7, tag, byte v.code] }).link with
        changed := t.link.changed }
    (∀ (c : RunConfig) (sender arg tag : Byte), s.config = some c →
      s.start.mode = .listen ∨ s.start.mode = .ready ∨ s.start.mode = .mute →
      (found arg → ∃ t, exec (.orderAck sender arg tag) s = .next t ∧ acked arg t ∧ answers t sender tag .accepted
        ∧ OnlyChanges [.alerts, .link] s t)
      ∧ (¬ found arg → ∃ t, exec (.orderAck sender arg tag) s = .next t ∧ answers t sender tag .refusedState
        ∧ OnlyChanges [.link] s t))
    ∧ (s.port.mode = .waiting ∨ s.port.mode = .receiving →
        let taken := fun (body : List Byte) (t : State) (outcome : ResponseOutcome) (result : ResponseResult) =>
          t.port.mode = .busy ∧ t.port.work = .none ∧ t.port.discard = s.port.discard
            ∧ ∃ b, t.port.response = some { outcome := outcome, code := 0x21, result := result, body := b }
                ∧ (result ≠ .range → b = [])
        (∀ arg, arg.toNat < 20 → found arg →
          ∃ t, exec (.ackAlert [arg]) s = .next t ∧ acked arg t ∧ taken [arg] t .done .none
            ∧ OnlyChanges [.alerts, .port] s t)
        ∧ (∀ arg, arg.toNat < 20 → ¬ found arg →
            ∃ t, exec (.ackAlert [arg]) s = .next t ∧ taken [arg] t .failed .empty ∧ OnlyChanges [.port] s t)
        ∧ (∀ arg, 20 ≤ arg.toNat →
            ∃ t, exec (.ackAlert [arg]) s = .next t ∧ taken [arg] t .failed .range ∧ OnlyChanges [.port] s t)
        ∧ (∀ body, body.length ≠ 1 → body.length ≤ 240 →
            ∃ t, exec (.ackAlert body) s = .next t ∧ taken body t .failed .length ∧ OnlyChanges [.port] s t))

/-- A read command takes its contents whole and changes nothing but the port. A read command without a body, taken
in WAITING or RECEIVING, puts a DONE response with its contents into hand; with a body of 1 to 240 characters it is
answered FAILED LENGTH. The port goes BUSY, and nothing else changes. Each content is laid out field by field, an
optional part after its presence byte, a list after its count, and a figure that is absent as all ones (a signed one
as the least value). IDENTIFY's part code and revision and READ KNIFE's direction without a job are open (logs 12
and 14). READ SETTINGS gives a section as the store holds it, with its CRC mark, or as the running configuration
holds it; a section or a source out of range is RANGE, RUNNING without a running configuration EMPTY, and a body of
another size LENGTH. It rests on log entries 13 (no peer timeout where none is loaded), 15 (a released line has no
level), 19 (the stored alert level), 20 (the flag byte of CHECK SETTINGS and the seconds of the timers of READ
HEADS), 33 (a bad cause record), 54 (the fail count of a head record in flight), 55 (an unlimited duration), 56 (the
figures of a head in SETUP_ONLY), 57 (the output stage in effect), 62 (the cause flags while their write is in
flight). [11_setup_port_and_stored_settings.md 11.3 The commands; 13_formats.md 13.5 The batch record and head table
as read; 01_the_make_room_link.md Link counters; 02_the_peer_table.md 2.7 Reading the table;
03_header_pools_and_grant_reckoning.md 3.9 Reading the pools; 04_the_batch_sequencer.md 4.10 Closing a batch;
05_vat_filling_and_dosing.md 5.8 Recipe fields and settings used by the Fill Unit;
06_coagulation_monitoring_and_cut_timing.md 6.7 Recipe fields and readout; 07_knife_drive.md 7.6 Settings, recipe
fields and readout; 08_moulding_and_the_load_queue.md 8.6 Reading the queue; 09_press_heads.md 9.12 Settings and
readout; 10_alerts.md 10.5 The ALERT hold reason and readout] -/
def Obligations.Readouts : Prop :=
  ∀ s : State, s.port.mode = .waiting ∨ s.port.mode = .receiving →
    let busy := fun (code : Byte) (body : List Byte) (r : Response) => { s with port := { s.port with
      mode := .busy, buffer := commandCharacters code body (commandCrc code body), response := some r, work := .none } }
    let serves := fun (command : List Byte → Instr) (code : Byte) (contents : List Byte) =>
      exec (command []) s = .next (busy code [] { outcome := .done, code := code, result := .none, body := contents })
        ∧ ∀ body, body ≠ [] → body.length ≤ 240 →
            exec (command body) s
              = .next (busy code body { outcome := .failed, code := code, result := .length, body := [] })
    let reads := fun (body : List Byte) (outcome : ResponseOutcome) (result : ResponseResult) (contents : List Byte) =>
      exec (.readSettings body) s
        = .next (busy 0x02 body { outcome := outcome, code := 0x02, result := result, body := contents })
    let some? := fun {α : Type} (f : α → List Byte) (o : Option α) =>
      match o with
      | none => flag false
      | some x => flag true ++ f x
    let list := fun {α : Type} (f : α → List Byte) (xs : List α) => byte xs.length :: xs.flatMap f
    let section_ := fun n : Nat => s.store.sections.getD (n - 1) (Slot.settled [])
    let sectionNumbers := [1, 2, 3, 4, 5, 6, 7, 8, 9, 10, 11]
    let number := match s.config with
      | some c => byte c.stationNumber
      | none => if (section_ 1).good then (section_ 1).stored.getD 0 0 else 0
    let fitted := match s.config with
      | some c => c.press.fitted
      | none => 0
    let differs := match s.config with
      | some c => sectionNumbers.any fun n => !(section_ n).good || (section_ n).stored != configContents c n
      | none => true
    let identity := be16 Config.partCode.toNat ++ [Config.revision, byte s.start.mode.code, number, byte fitted]
      ++ flag differs ++ be16 s.port.discard ++ be16 s.port.abandoned
    let l := s.link
    let link := be16 l.framesGood ++ be16 l.crcErrors ++ be16 l.framingErrors ++ be16 l.collisions ++ be16 l.txDropped
      ++ be16 l.queueOverrun ++ [byte l.tally, byte l.queue.length]
      ++ (match l.flight with
        | none => flag false ++ [byte 0]
        | some f => flag true ++ [byte f.attempts])
      ++ [byte l.nextSeq]
    let claim := fun k : Claim => [byte k.level] ++ flag k.holding ++ [byte k.waited] ++ be16 k.request ++ be16 k.floor
    let record := fun r : PeerRecord =>
      [byte r.number, byte r.reported.role.code, byte (if r.live then 0 else 1), byte r.lastSeq, byte r.missed,
        byte (r.ageMs / 1000), byte (if r.reported.ready then 2 else 1)] ++ be16 r.reported.batchNumber
        ++ [byte r.reported.step.code] ++ flag r.reported.held
        ++ [byte r.reported.milkBand.code, byte r.reported.airBand.code, byte r.reported.usableHeads,
          byte (r.reported.highest.getD 0xFF)]
        ++ some? claim r.reported.milkClaim ++ some? claim r.reported.airClaim
    let peers := [byte s.peers.records.length] ++ be16 s.peers.malformed ++ s.peers.records.flatMap record
      ++ [match s.config with
        | some c => byte c.peerTimeout
        | none => 0xFF]
    let pool := fun p : Pool =>
      let x := s.pool p
      be16 (match s.config with
        | some c => (c.pool p).capacity
        | none => 0)
        ++ [byte x.band.code] ++ flag x.degraded
        ++ (match x.lastSample with
          | .kpa k => be16 k
          | .sensor => be16 0xFFFF)
        ++ some? (fun k : OwnClaim => [byte k.level] ++ be16 k.request ++ be16 k.floor ++ [byte k.waited]) x.own
        ++ some? claim x.carried ++ be16 x.grant ++ [byte x.last.derate] ++ be16 x.last.effective
        ++ [byte x.last.rank, byte x.last.candidates] ++ be16 x.last.remainder
    let batch := fun r : BatchRecord =>
      be16 r.number ++ [byte r.slot] ++ be32 r.startTime ++ [byte r.step.code, byte r.phase.code] ++ be32 r.stepStart
        ++ be32 r.filled ++ beInt32 r.overrun ++ be16 (r.flocTime.getD 0xFFFF) ++ be16 r.cutTime
        ++ [byte r.cutReason.code] ++ be32 r.lateness
        ++ [byte r.made, byte r.untracked, byte r.pressed, byte r.flagged, byte r.outcome.code]
        ++ (match r.firstFault with
          | none => [0xFF]
          | some st => [byte st.code]) ++ flag r.laneClosed
    let current := match s.seq.current with
      | .none => none
      | .opened r => some r
      | .closed n => (s.store.history.find? fun x => x.latest.number = n).map Slot.latest
    let hold := s.seq.hold
    let batches := [byte s.seq.step.code, byte s.seq.phase.code,
        byte (hold.order.toNat + 2 * hold.line.toNat + 4 * hold.alert.toNat + 8 * hold.meter.toNat + 16 * hold.knife.toNat)]
      ++ some? batch current
      ++ list batch (match s.config with
        | some _ => s.store.history.map Slot.latest
        | none => [])
      ++ be16 s.seq.counter ++ be16 s.seq.refusedStarts
    let f := s.fill
    let fill := be32 f.totaliser ++ flag f.spanOpen ++ be16 f.stray ++ be32 f.qMeas ++ be16 f.grant ++ be16 f.qCmd
      ++ be16 f.duty ++ be16 f.flowElapsed ++ flag f.slowRaised ++ [byte f.noPulse, byte f.settle] ++ be16 f.dosed
      ++ flag f.dosePump ++ flag f.stirJob
    let m := s.coag
    let firmness := [byte m.state.code] ++ be16 m.clock ++ be16 m.mixTimer ++ be16 m.quietStart ++ be16 m.index
      ++ list be16 m.window ++ be16 m.lastMean ++ be16 m.lastRaw ++ [byte m.railRun]
      ++ (match m.slope with
        | none => be16 0x8000
        | some x => be16 (BitVec.ofInt 16 x).toNat)
      ++ be16 m.peak ++ be16 m.peakIndex ++ be16 (m.flocTime.getD 0xFFFF) ++ be16 (m.detectTime.getD 0xFFFF)
      ++ be16 (m.cutAt.getD 0xFFFF) ++ [byte m.reason.code]
      ++ (match s.config.bind fun c => current.bind fun r => c.recipe r.slot with
        | none => [0, 0, 0, 0, 0, 0, 0, 0, 0, 0]
        | some r => [byte r.period, byte r.multiplier] ++ be16 r.minSlope ++ be16 (duration r.tMin)
            ++ be16 (duration r.tFallback) ++ be16 (duration r.tMax))
    let k := s.knife
    let knife := [byte k.state.code]
      ++ (match k.job with
        | none => [0, 0, Config.noJobDirection, 0xFF, 0xFF]
        | some j => [byte j.kind.code, byte j.kind.owner, byte j.kind.direction.code] ++ be16 j.speed)
      ++ flag k.continuing ++ flag k.run ++ [byte k.reverse.code] ++ be16 k.speed ++ flag s.lines.driveFault
      ++ [byte (min 255 (k.offMs / 1000)), byte (k.graceMs / 1000), byte (k.stallMs / 100)] ++ be16 k.cutElapsed
      ++ be16 k.rampElapsed ++ be16 k.stirElapsed ++ be16 k.turns
    let load := fun x : Load =>
      be32 x.sequence ++ be16 x.batchNumber ++ [byte x.slot] ++ be32 x.madeTime ++ be16 (x.waitedMs / 1000)
        ++ be16 (x.flags.late.toNat + 2 * x.flags.underpressure.toNat + 4 * x.flags.guardAbort.toNat
          + 8 * x.flags.estop.toNat)
    let q := s.queue
    let queue := list load q.loads ++ be32 q.counter ++ [byte q.filled] ++ flag q.queueHold
      ++ flag (q.queueHold || s.seq.fillerRequest) ++ flag s.seq.fillerRequest ++ flag s.seq.outlet
      ++ flag s.lines.loadDone ++ flag s.lines.vatEmpty ++ be16 q.stray
    let head := fun h : HeadNo =>
      let x := s.head h
      let rises := match s.config with
        | some c => decide (h ∈ risingSet c s)
        | none => false
      let freezes := match s.config with
        | some c => !c.press.guardVents && s.lines.guardOpen && (x.state == .ramp || x.state == .hold)
        | none => false
      flag (x.state != .unfitted) ++ [byte x.state.code] ++ some? load x.load ++ [byte x.stage] ++ be16 x.target
        ++ be16 x.pressure ++ [byte x.accumulator] ++ flag rises ++ flag x.served ++ flag freezes ++ be16 x.holdTimer
        ++ [byte (x.faultSteps / 5), byte (x.ventSteps / 5)] ++ flag x.under ++ be16 x.duty ++ [byte x.output.code]
        ++ be16 (if x.output = .released then 0xFFFF else x.line) ++ flag x.pendingOut ++ [byte x.failCount]
        ++ flag x.occupied ++ flag x.badAtStart
    let heads := head 0 ++ head 1 ++ head 2 ++ head 3 ++ [byte (usableHeads s)] ++ be16 s.press.airGrant
      ++ flag s.lines.guardOpen
    let level := fun kind : AlertKind =>
      [byte kind.minLevel, (section_ 7).stored.getD (kind.number - 1) 0,
        byte (match s.config with
          | some c => max (c.alertLevels.getD (kind.number - 1) 0) kind.minLevel
          | none => kind.minLevel)]
    let alert := fun a : AlertRecord =>
      [byte a.kind.number, byte a.level] ++ be16 a.batchNumber ++ [byte a.step.code] ++ be16 a.detail
        ++ be32 a.firstRaised ++ [byte a.repeats]
    let firstAt := fun n : Nat => match s.alerts.pending.find? fun a => a.level = n with
      | none => 0
      | some a => a.kind.number
    let alerts := AlertKind.all.flatMap level ++ list alert s.alerts.pending ++ [byte ((highestLevel s).getD 0xFF)]
      ++ (match s.alerts.beacon with
        | .off => [0, 0]
        | .slow => [1, byte (firstAt 2)]
        | .fast => [2, byte (firstAt 3)])
    let causes := [if s.store.causes.good then byte s.store.causes.stored.code else 0, byte s.start.flags.code]
    serves .identify 0x01 identity
      ∧ serves .checkSettings 0x04 (sectionNumbers.flatMap fun n => flag (section_ n).good)
      ∧ serves .readLink 0x10 link ∧ serves .readPeers 0x11 peers
      ∧ serves .readPools 0x12 (pool .milk ++ pool .air) ∧ serves .readBatches 0x13 batches
      ∧ serves .readFill 0x14 fill ∧ serves .readFirmness 0x15 firmness
      ∧ serves .readKnife 0x16 knife ∧ serves .readQueue 0x17 queue
      ∧ serves .readHeads 0x18 heads ∧ serves .readAlerts 0x19 alerts
      ∧ serves .readCauses 0x1A causes
      ∧ (∀ sec : Byte, 1 ≤ sec.toNat → sec.toNat ≤ 11 →
          reads [sec, 0] .done .none
            ([sec, 0] ++ flag (section_ sec.toNat).good ++ (section_ sec.toNat).stored)
          ∧ (∀ c, s.config = some c → reads [sec, 1] .done .none ([sec, 1] ++ flag true ++ configContents c sec.toNat))
          ∧ (s.config = none → reads [sec, 1] .failed .empty []))
      ∧ (∀ sec src : Byte, sec.toNat = 0 ∨ 11 < sec.toNat ∨ 1 < src.toNat → reads [sec, src] .failed .range [0])
      ∧ (∀ body, body.length ≠ 2 → body.length ≤ 240 → reads body .failed .length [])

/-- Frames begun, abandoned, discarded and refused, and the response sent. A start byte in WAITING begins a frame; a gap
of more than 100 ms abandons it and is counted. A character in BUSY, before the port is served, or other than the
start byte in WAITING is discarded and counted. A frame in BUSY or before the port is served loses all its
characters. A wrong CRC is answered CHECK, an unknown code UNKNOWN, and a body length above 240 LENGTH at its length
character, whatever its code; the characters that follow come in BUSY. When the response has been sent the port is
WAITING again; after a RESTART the station resets with that cause. It rests on log entries 4 (a command whose event
cannot occur changes nothing), 27 (LENGTH whatever the command code), 28 (the row of a setup command is its whole
frame). [11_setup_port_and_stored_settings.md 11.1 The line and the READY handshake;
11_setup_port_and_stored_settings.md 11.2 Taking a command in; 11_setup_port_and_stored_settings.md 11.5 Taking
settings up, restarting and reset causes] -/
def Obligations.PortFrames : Prop :=
  ∀ s : State,
    let discards := fun n : Nat => { s with port := { s.port with discard := min 65535 (s.port.discard + n) } }
    let answered := fun (code : Byte) (body : List Byte) (crc : BitVec 16) (outcome : ResponseOutcome)
        (result : ResponseResult) => { s with port := { s.port with
          mode := .busy, buffer := commandCharacters code body crc, work := .none,
          response := some { outcome := outcome, code := code, result := result, body := [] } } }
    let commands : List (Byte × (List Byte → Instr)) :=
      [(0x01, .identify), (0x02, .readSettings), (0x03, .writeSettings), (0x04, .checkSettings), (0x05, .eraseSettings),
       (0x10, .readLink), (0x11, .readPeers), (0x12, .readPools), (0x13, .readBatches), (0x14, .readFill),
       (0x15, .readFirmness), (0x16, .readKnife), (0x17, .readQueue), (0x18, .readHeads), (0x19, .readAlerts),
       (0x1A, .readCauses), (0x20, .clearHeadFaults), (0x21, .ackAlert), (0x22, .clearCauses), (0x30, .restart)]
    (s.port.mode = .waiting →
      exec .commandFrameBegin s = .next { s with port := { s.port with mode := .receiving, buffer := [0xC3] } })
    ∧ (s.port.mode = .receiving → exec .commandFrameBegin s = .next s)
    ∧ (s.port.mode = .busy ∨ s.port.mode = .unserved →
        exec .commandFrameBegin s = .next (discards 1)
          ∧ (∀ ch, exec (.setupCharacterDiscard ch) s = .next (discards 1))
          ∧ (∀ command ∈ commands, ∀ body, exec (command.2 body) s = .next (discards (5 + body.length)))
          ∧ (∀ code body crc, crc ≠ commandCrc code body →
              exec (.commandCrcFailed code body crc) s = .next (discards (5 + body.length)))
          ∧ (∀ code body, commandKnown code = false →
              exec (.setupUnknownCommand code body) s = .next (discards (5 + body.length))))
    ∧ (∀ ch, s.port.mode = .waiting → ch ≠ 0xC3 → exec (.setupCharacterDiscard ch) s = .next (discards 1))
    ∧ (∀ gap, s.port.mode = .receiving →
        (100000 < gap → exec (.setupFrameAbandon gap) s = .next { s with port := { s.port with
            mode := .waiting, buffer := [], abandoned := min 65535 (s.port.abandoned + 1) } })
        ∧ (gap ≤ 100000 → exec (.setupFrameAbandon gap) s = .next s))
    ∧ (∀ gap, s.port.mode ≠ .receiving → exec (.setupFrameAbandon gap) s = .next s)
    ∧ (s.port.mode = .waiting ∨ s.port.mode = .receiving → ∀ (code : Byte) (body : List Byte),
        (body.length ≤ 240 → ∀ crc, crc ≠ commandCrc code body →
          exec (.commandCrcFailed code body crc) s = .next (answered code body crc .failed .check))
        ∧ (body.length ≤ 240 → commandKnown code = false →
            exec (.setupUnknownCommand code body) s
              = .next (answered code body (commandCrc code body) .unknown .none))
        ∧ (240 < body.length →
            let tooLong := fun code : Byte => { s with port := { s.port with
              mode := .busy, buffer := [0xC3, code, byte body.length], work := .none,
              response := some { outcome := .failed, code := code, result := .length, body := [] } } }
            (∀ command ∈ commands, exec (command.2 body) s = .next (tooLong command.1))
              ∧ (commandKnown code = false → exec (.setupUnknownCommand code body) s = .next (tooLong code))
              ∧ (∀ crc, crc ≠ commandCrc code body →
                  exec (.commandCrcFailed code body crc) s = .next (tooLong code))))
    ∧ (∀ r, s.port.mode = .busy → s.port.response = some r → s.port.work ≠ .restart →
        exec .responseSent s = .next { s with port := { s.port with
          mode := .waiting, buffer := [], response := none, work := .none } })
    ∧ (∀ r, s.port.mode = .busy → s.port.response = some r → s.port.work = .restart →
        exec .responseSent s = exec (.reset .restart) s)
    ∧ (s.port.mode ≠ .busy ∨ s.port.response = none → exec .responseSent s = .next s)

/-- Writing and erasing settings, and the commands with a write or a reset behind them. WRITE SETTINGS is checked for
the section, the length, the state and the field ranges in that order, and the first that fails is answered; else
the section's write is in flight and the port waits. ERASE SETTINGS begins the write of section 1. CLEAR CAUSES
writes the four flags clear and RESTART puts DONE into hand; both ask for an empty body. CLEAR HEAD FAULTS sets a
fitted head's fail count to 0, writes its record, clears its pending-out mark, and takes it from OUT to FREE, where
the assignment check follows. The position a RANGE answer to WRITE SETTINGS names is that of the first field in
layout order outside its range or in a broken condition of Table 11-2, where the close allowance below the target
and the cover volume up to it are those fields' own ranges, a condition broken between others marks both (log 18),
and durations are compared as decoded, 255 as unlimited; to another head number its byte is open (log 16). It rests
on log entries 28 (the row of a setup command is its whole frame), 44 (a clear while a cause write is in flight).
[11_setup_port_and_stored_settings.md 11.4 Writing settings; 11_setup_port_and_stored_settings.md 11.5 Taking
settings up, restarting and reset causes; 09_press_heads.md 9.8 Venting and unloading;
03_header_pools_and_grant_reckoning.md 3.1 The two pools; 05_vat_filling_and_dosing.md 5.8 Recipe fields and
settings used by the Fill Unit; 06_coagulation_monitoring_and_cut_timing.md 6.7 Recipe fields and readout;
09_press_heads.md 9.12 Settings and readout; 13_formats.md 13.6 Duration codes] -/
def Obligations.SettingsWritten : Prop :=
  (
  ∀ s : State, s.port.mode = .waiting ∨ s.port.mode = .receiving →
    let idle := (s.seq.step = .idle ∨ s.seq.step = .stopped)
      ∧ ∀ h, (s.head h).state ≠ .ramp ∧ (s.head h).state ≠ .hold ∧ (s.head h).state ≠ .vent
    let taken := fun (code : Byte) (body : List Byte) => { s.port with
      mode := .busy, buffer := commandCharacters code body (commandCrc code body), response := none }
    let answer := fun (code : Byte) (body : List Byte) (outcome : ResponseOutcome) (result : ResponseResult)
        (contents : List Byte) => { taken code body with
          work := .none, response := some { outcome := outcome, code := code, result := result, body := contents } }
    let noFlags : CauseFlags := { powerOn := false, supplyDrop := false, resetLine := false, restart := false }
    let programs := fun (n : Nat) (contents : List Byte) => { s.store with
      sections := s.store.sections.set (n - 1) ((sectionSlot n s).write contents) }
    (exec (.writeSettings []) s = .next { s with port := answer 0x03 [] .failed .length [] })
    ∧ (∀ (sec : Byte) (contents : List Byte), contents.length < 240 →
        let body := sec :: contents
        let n := sec.toNat
        let fault := rangeFault n contents
        (n < 1 ∨ 11 < n → exec (.writeSettings body) s = .next { s with port := answer 0x03 body .failed .range [0] })
        ∧ (1 ≤ n → n ≤ 11 → contents.length ≠ sectionSize n →
            exec (.writeSettings body) s = .next { s with port := answer 0x03 body .failed .length [] })
        ∧ (1 ≤ n → n ≤ 11 → contents.length = sectionSize n → ¬ idle →
            exec (.writeSettings body) s = .next { s with port := answer 0x03 body .failed .state [] })
        ∧ (1 ≤ n → n ≤ 11 → contents.length = sectionSize n → idle → fault ≠ 0 →
            exec (.writeSettings body) s = .next { s with port := answer 0x03 body .failed .range [byte fault] })
        ∧ (1 ≤ n → n ≤ 11 → contents.length = sectionSize n → idle → fault = 0 →
            exec (.writeSettings body) s = .next { s with
              store := programs n contents, port := { taken 0x03 body with work := .write n contents } }))
    ∧ (¬ idle → exec (.eraseSettings []) s = .next { s with port := answer 0x05 [] .failed .state [] })
    ∧ (idle → exec (.eraseSettings []) s = .next { s with
        store := programs 1 (defaultContents 1), port := { taken 0x05 [] with work := .erase 1 } })
    ∧ exec (.clearCauses []) s = .next { s with
        store := { s.store with causes := s.store.causes.write noFlags },
        port := { taken 0x22 [] with work := .clearCauses } }
    ∧ exec (.restart []) s = .next { s with port := { answer 0x30 [] .done .none [] with work := .restart } }
    ∧ (∀ body, body ≠ [] → body.length ≤ 240 →
        exec (.eraseSettings body) s = .next { s with port := answer 0x05 body .failed .length [] }
          ∧ exec (.clearCauses body) s = .next { s with port := answer 0x22 body .failed .length [] }
          ∧ exec (.restart body) s = .next { s with port := answer 0x30 body .failed .length [] })
    ∧ (∀ body, body.length ≠ 1 → body.length ≤ 240 →
        exec (.clearHeadFaults body) s = .next { s with port := answer 0x20 body .failed .length [] })
    ∧ (∀ b : Byte, s.config = none ∨ (∃ c, s.config = some c ∧ (b.toNat = 0 ∨ c.press.fitted < b.toNat)) →
        ∃ x, exec (.clearHeadFaults [b]) s = .next { s with port := answer 0x20 [b] .failed .range [x] })
    ∧ (∀ (c : RunConfig) (h : HeadNo) (b : Byte), s.config = some c → b.toNat = h.val + 1 → h.val < c.press.fitted →
        ∃ t, exec (.clearHeadFaults [b]) s = .next t ∧ t.port = answer 0x20 [b] .done .none []
          ∧ (t.head h).failCount = 0 ∧ (t.head h).pendingOut = ((s.head h).pendingOut && (s.head h).state = .out)
          ∧ ((s.head h).state ≠ .out → (t.head h).state = (s.head h).state ∧ t.queue = s.queue
              ∧ (t.store.headTable.get h).latest = { failCount := 0, occupied := (s.head h).occupied })
          ∧ ((s.head h).state = .out → s.queue.loads = [] ∨ s.lines.guardOpen = true ∨ s.lines.estop = true →
              (t.head h).state = .free ∧ t.queue = s.queue)
          ∧ ((s.head h).state = .out →
              let x := assign c (s.setHead h { s.head h with failCount := 0, state := .free })
              t.queue = x.queue
                ∧ (∀ g, t.head g = { x.head g with
                    output := (t.head g).output, line := (t.head g).line, periodMs := (t.head g).periodMs })
                ∧ (t.store.headTable.get h).latest = { failCount := 0, occupied := (t.head h).occupied }
                ∧ (∀ l, s.queue.loads.head? = some l → s.lines.guardOpen = false → s.lines.estop = false →
                    (∀ g, g < h → (s.head g).state ≠ .free) → (t.head h).load = some l))
          ∧ OnlyChanges [.queue, .press, .air, .store, .port, .link] s t)
  )
  ∧ (
    ∀ contents : List Byte,
      let b := fun i => (contents.getD i 0).toNat
      let w := fun i => 256 * b i + b (i + 1)
      let first := fun ok : List Bool => match ok.findIdx? fun x => !x with
        | none => 0
        | some i => i + 1
      let range := fun lo hi n : Nat => decide (lo ≤ n) && decide (n ≤ hi)
      let pool := fun i =>
        let below := fun j k => decide (w (i + j) < w (i + k))
        let onTap := fun j => range 1 (w (i + 2)) (w (i + j))
        [range 0 4000 (w i), range 100 1600 (w (i + 2)), onTap 4 && below 8 4 && below 4 6, onTap 6 && below 4 6,
          onTap 8 && below 8 4 && below 8 10, onTap 10 && below 8 10]
      let seconds := fun code : Nat => if code = 255 then 100000 else duration code
      let allowance := decide (w 11 < w 9)
      let cover := decide (w 13 ≤ w 9)
      let minimum := decide (seconds (b 26) ≤ seconds (b 27))
      let fallback := decide (seconds (b 27) ≤ seconds (b 28))
      let mix := decide (seconds (b 19) < seconds (b 28))
      let stage := fun k =>
        if k < b 37 then [range 0 600 (w (38 + 5 * k)), range 1 600 (w (40 + 5 * k)), range 0 254 (b (42 + 5 * k))]
        else [w (38 + 5 * k) == 0, w (40 + 5 * k) == 0, b (42 + 5 * k) == 0]
      (contents.length = 2 → rangeFault 1 contents = first [range 1 32 (b 0), range 0 4 (b 1)])
      ∧ (contents.length = 1 → rangeFault 2 contents = first [range 3 15 (b 0)])
      ∧ (contents.length = 24 → rangeFault 3 contents = first (pool 0 ++ pool 12))
      ∧ (contents.length = 9 → rangeFault 4 contents = first
          [range 1 3 (b 0), range 1 3 (b 1), range 1 3 (b 2), range 1 3 (b 3), range 1 10 (b 4), range 0 1 (b 5),
            range 0 1 (b 6), range 0 1 (b 7), range 0 1 (b 8)])
      ∧ (contents.length = 5 → rangeFault 5 contents = first [range 1 10000 (w 0), range 10 500 (w 2), range 1 255 (b 4)])
      ∧ (contents.length = 9 → rangeFault 6 contents = first
          [range 1 4 (b 0), range 1 4000 (w 1), range 0 255 (b 3), range 0 255 (b 4), range 1 100 (b 5), range 5 120 (b 6),
            range 1 15 (b 7), range 0 1 (b 8)])
      ∧ (contents.length = 19 → rangeFault 7 contents = first (contents.map fun x => range 0 3 x.toNat))
      ∧ (∀ n, n = 8 ∨ n = 9 ∨ n = 10 ∨ n = 11 → contents.length = 68 → rangeFault n contents = first (
          [range 0 1 (b 0), range 1 4 (b 1), range 0 24 (b 2), range 0 255 (b 3), range 0 3 (b 4), range 0 4000 (w 5),
            range 0 4000 (w 7), range 100 60000 (w 9), range 0 5000 (w 11) && allowance, cover,
            range 0 1000 (w 15), range 0 255 (b 17), range 1 120 (b 18), range 0 254 (b 19) && mix, range 0 1000 (w 20),
            range 2 30 (b 22), range 1 4095 (w 23), range 16 64 (b 25), range 0 254 (b 26) && minimum,
            range 0 254 (b 27) && minimum && fallback, range 1 254 (b 28) && fallback && mix, range 1 1000 (w 29),
            range 1 254 (b 31), range 0 254 (b 32), range 1 1000 (w 33), range 0 254 (b 35), range 0 3 (b 36),
            range 1 6 (b 37)]
          ++ stage 0 ++ stage 1 ++ stage 2 ++ stage 3 ++ stage 4 ++ stage 5))
  )

/-- A programmed section and a cleared cause record are verified against what was sent. When the write of a section
ends, the store holds what the medium took, with its CRC mark. After WRITE SETTINGS the answer is DONE if that is
what was sent and FAILED VERIFY if not. After ERASE SETTINGS a section that differs from its default is FAILED
VERIFY with its number, one before the eleventh that agrees is followed by the write of the next, and the eleventh
is DONE. The write of the cause-flag record ends alike, and after CLEAR CAUSES it is answered. With no such write
nothing changes. The default contents of the eleven sections are those of Table 11-3, byte by byte: of a recipe the
present mark clear, the sample period 6 s, one stage, and every other field at the least value of its range. It
rests on log entries 4 (a command whose event cannot occur changes nothing), 43 (a bad CRC over the contents sent),
44 (a clear while a cause write is in flight). [11_setup_port_and_stored_settings.md 11.4 Writing settings;
11_setup_port_and_stored_settings.md 11.5 Taking settings up, restarting and reset causes;
12_start_up_and_recovery.md 12.1 Reset causes; 13_formats.md 13.4 Settings sections] -/
def Obligations.WritesVerified : Prop :=
  (
  ∀ (s : State) (held : List Byte) (good : Bool),
    let ended := fun n : Nat => s.store.sections.set (n - 1) ((sectionSlot n s).finishWith held good)
    let response := fun (code : Byte) (outcome : ResponseOutcome) (result : ResponseResult) (contents : List Byte) =>
      { s.port with
        work := .none, response := some { outcome := outcome, code := code, result := result, body := contents } }
    (∀ n contents, s.port.work = .write n contents → held.length = sectionSize n →
      (held = contents → exec (.settingsProgramDone held good) s = .next { s with
        store := { s.store with sections := ended n }, port := response 0x03 .done .none [] })
      ∧ (held ≠ contents → exec (.settingsProgramDone held good) s = .next { s with
          store := { s.store with sections := ended n }, port := response 0x03 .failed .verify [] }))
    ∧ (∀ n, s.port.work = .erase n → held.length = sectionSize n → 1 ≤ n → n ≤ 11 →
        (held ≠ defaultContents n → exec (.settingsProgramDone held good) s = .next { s with
          store := { s.store with sections := ended n }, port := response 0x05 .failed .verify [byte n] })
        ∧ (held = defaultContents n → n = 11 → exec (.settingsProgramDone held good) s = .next { s with
            store := { s.store with sections := ended n }, port := response 0x05 .done .none [] })
        ∧ (held = defaultContents n → n < 11 →
            let next := (s.store.sections.getD n (Slot.settled [])).write (defaultContents (n + 1))
            exec (.settingsProgramDone held good) s = .next { s with
              store := { s.store with sections := (ended n).set n next },
              port := { s.port with work := .erase (n + 1) } }))
    ∧ (s.port.work = .none ∨ s.port.work = .clearCauses ∨ s.port.work = .restart →
        exec (.settingsProgramDone held good) s = .next s)
    ∧ (∀ (b : Byte) (written : CauseFlags), b.toNat < 16 → s.store.causes.inFlight = some written →
        ∃ t, exec (.causeRecordWriteDone b good) s = .next t
          ∧ t.store.causes.stored.code = b.toNat ∧ t.store.causes.good = good
          ∧ t.store.causes.inFlight = s.store.causes.next ∧ t.store.causes.next = none
          ∧ (s.port.work = .clearCauses → s.store.causes.next = none → t.port =
              if b.toNat = written.code then response 0x22 .done .none [] else response 0x22 .failed .verify [])
          ∧ (s.port.work ≠ .clearCauses ∨ s.store.causes.next ≠ none → t.port = s.port)
          ∧ OnlyChanges [.store, .port] s t)
    ∧ (∀ b : Byte, s.store.causes.inFlight = none → exec (.causeRecordWriteDone b good) s = .next s)
  )
  ∧ (
    let pool : List Byte := [0, 0, 0x03, 0xE8, 0, 200, 0, 250, 0, 100, 0, 150]
    let batch : List Byte := [0, 1, 0, 0]
    let fill : List Byte := [0, 0, 0, 0, 0, 0, 100, 0, 0, 0, 0, 0, 0, 0, 1]
    let setting : List Byte := [0, 0, 0, 6, 0, 1, 16, 0, 0, 1]
    let cutting : List Byte := [0, 1, 1, 0, 0, 1, 0]
    let schedule : List Byte := [0, 1] ++ [0, 0, 0, 1, 0] ++ List.replicate 25 0
    defaultContents 1 = [1, 0] ∧ defaultContents 2 = [5] ∧ defaultContents 3 = pool ++ pool
      ∧ defaultContents 4 = [1, 1, 1, 1, 5, 0, 0, 0, 0] ∧ defaultContents 5 = [0, 100, 0, 50, 32]
      ∧ defaultContents 6 = [4, 0, 150, 64, 32, 15, 20, 3, 0]
      ∧ defaultContents 7 = [3, 3, 0, 0, 0, 2, 2, 2] ++ List.replicate 11 0
      ∧ ∀ n, n = 8 ∨ n = 9 ∨ n = 10 ∨ n = 11 → defaultContents n = batch ++ fill ++ setting ++ cutting ++ schedule
  )

/-- A reset loses every block's working state and leaves bad the records whose writes it cuts short. After a reset of
any cause every output is safe and every block at its reset values: no configuration, no queued or flying frame, no
peer, no claim and no grant, IDLE with no batch and no hold reason, no load and no load counter, every figure and
timer of the monitor, the drive, the fill, the queue and the heads at 0, none or clear with KNIFE REVERSE at 0, no
job, every head released and in none of the six states, no alert, the beacon off and the port unserved with its
counts 0. The levels on the lines stay. A record of the store whose write was in flight is bad, and every other
stays as it was. A cause that arrives before the start has taken up an earlier one waits behind it. It rests on log
entries 7 (the mode between a reset and its start), 8 (the reset values that no rule gives, and causes that wait
together), 10 (the levels on the lines outlive a reset), 30 (the commands that wait outlive a reset).
[11_setup_port_and_stored_settings.md 11.1 The line and the READY handshake; 12_start_up_and_recovery.md 12.1 Reset
causes; 12_start_up_and_recovery.md 12.2 The start sequence; 03_header_pools_and_grant_reckoning.md 3.1 The two
pools; 05_vat_filling_and_dosing.md 5.1 The Fill Unit's state; 06_coagulation_monitoring_and_cut_timing.md 6.1 The
monitor's state; 07_knife_drive.md 7.1 Lines and state; 08_moulding_and_the_load_queue.md 8.1 The queue and its
loads; 09_press_heads.md 9.11 Return from a reset] -/
def Obligations.ResetTaken : Prop :=
  ∀ (cause : Cause) (s : State),
    let cutShort := fun {α : Type} (x y : Slot α) => y.inFlight = none ∧ y.next = none
      ∧ (x.inFlight = none → y.stored = x.stored ∧ y.good = x.good) ∧ (x.inFlight ≠ none → y.good = false)
    ∃ t, exec (.reset cause) s = .next t
      ∧ t.config = none ∧ t.start.mode = .starting ∧ t.start.stationMs = 0 ∧ t.start.listenMs = 0
      ∧ t.start.causes = (if s.start.mode = .starting then s.start.causes else []) ++ [cause]
      ∧ t.link = LinkState.init ∧ t.link.queue = [] ∧ t.link.flight = none ∧ t.link.nextSeq = 0
      ∧ t.peers.records = [] ∧ t.peers.malformed = 0
      ∧ (∀ p, (t.pool p).own = none ∧ (t.pool p).grant = 0 ∧ (t.pool p).band = .normal)
      ∧ t.seq.step = .idle ∧ t.seq.phase = .none ∧ t.seq.current = .none ∧ held t = false ∧ t.seq.refusedStarts = 0
      ∧ t.seq.outlet = false ∧ fillerHold t = false
      ∧ t.fill.duty = 0 ∧ t.fill.dosePump = false ∧ t.fill.totaliser = 0 ∧ t.fill.spanOpen = false
      ∧ (∀ p, t.pool p = { t.pool p with
          band := .normal, degraded := false, belowLow := 0, atLowLeave := 0, belowStarved := 0, atStarvedLeave := 0,
          sensorRun := 0, goodRun := 0, lastSample := .kpa 0, own := none, carried := none, grant := 0,
          last := { derate := 8, effective := 0, rank := 0, candidates := 0, remainder := 0 } })
      ∧ t.fill = {
          totaliser := 0, spanOpen := false, stray := 0, window := 0, qMeas := 0, grant := 0, qCmd := 0, duty := 0,
          flowElapsed := 0, slowRaised := false, noPulse := 0, settle := 0, dosed := 0, stirJob := false, dosePump := false }
      ∧ t.coag = { t.coag with
          state := .inactive, clock := 0, ticking := false, mixTimer := 0, quietStart := 0, index := 0, lastMean := 0,
          window := [], readings := [], railRun := 0, slope := none, peak := 0, peakIndex := 0, flocTime := none,
          detectTime := none, cutAt := none, reason := .predicted, mixJob := false }
      ∧ t.knife = { t.knife with
          state := .stopped, job := none, continuing := false, offMs := 0, graceMs := 0, stallMs := 0, cutElapsed := 0,
          rampElapsed := 0, stirElapsed := 0, turns := 0, run := false, reverse := .stir, speed := 0 }
      ∧ t.queue = { loads := [], counter := 0, filled := 0, queueHold := false, stray := 0 }
      ∧ t.press.airGrant = 0
      ∧ (∀ h, t.head h = { t.head h with
          state := .unfitted, load := none, stage := 0, target := 0, accumulator := 0, holdTimer := 0, faultSteps := 0,
          under := false, ventSteps := 0, duty := 0, pressure := 0, pendingOut := false, output := .released })
      ∧ t.coag.state = .inactive ∧ t.coag.ticking = false
      ∧ t.knife.run = false ∧ t.knife.speed = 0 ∧ t.knife.job = none ∧ t.knife.state = .stopped
      ∧ t.queue.loads = [] ∧ t.queue.counter = 0
      ∧ (∀ h, (t.head h).output = .released ∧ (t.head h).load = none)
      ∧ t.alerts.pending = [] ∧ t.alerts.beacon = .off
      ∧ t.port.mode = .unserved ∧ t.port.response = none ∧ t.port.discard = 0 ∧ t.port.abandoned = 0
      ∧ t.lines = { s.lines with reset := s.lines.reset || decide (cause = .resetLine) }
      ∧ t.pending = s.pending
      ∧ cutShort s.store.checkpoint t.store.checkpoint ∧ cutShort s.store.causes t.store.causes
      ∧ (∀ h, cutShort (s.store.headTable.get h) (t.store.headTable.get h))
      ∧ t.store.history.length = s.store.history.length
      ∧ (∀ (n : Nat) x y, s.store.history[n]? = some x → t.store.history[n]? = some y → cutShort x y)
      ∧ t.store.sections.length = s.store.sections.length
      ∧ (∀ (n : Nat) x y, s.store.sections[n]? = some x → t.store.sections[n]? = some y → cutShort x y)

/-- The start takes its mode from the settings, its heads from their records and its step from the checkpoint. The
start takes the updated cause flags as its running copy. With a section bad the station enters SETUP_ONLY and
nothing of the blocks changes. Else it loads the configuration and enters LISTEN with the listen timer at twice the
peer timeout, and the Peer Table, the pools (log 52) and the load queue stay as the reset left them; a bad head
record or a fail count at the limit gives OUT, an occupied one UNLOAD, the rest FREE with their outputs forced off,
and a head above the fitted number takes no state but keeps its record's figures, a bad one none; the batch counter
comes from a good checkpoint; a running batch or a bad checkpoint gives STOPPED with BATCH_INTERRUPTED pending, else
IDLE, with no hold reason; a RUNNING record is not closed on the lane (RecordsSound, which HistoryStaysSound has
every step keep). Of the history the good records are kept in their order; the batch of the checkpoint joins them as
INTERRUPTED if it was RUNNING, and with its closed outcome if its number is above the newest, the oldest of eight
making room; each not closed on the lane is then closed, with the loads not pressed flagged, VAT_DONE made
INTERRUPTED with BATCH_INTERRUPTED pending, ABORTED and ESTOP kept, and its REPORT offered. The listen timer run out
makes the station READY. The running configuration holds the fields of the eleven sections at the values stored, in
range or not, as they lie in the layouts; laying it out again gives the contents back, and the stored-differs flag
is clear after the start. A code of 13.4 has the meaning 13.4 gives it: the sensitivities, the valve senses, the
guard modes and the present mark. It rests on log entries 4 (a command whose event cannot occur changes nothing), 8
(causes that wait together), 21 (BATCH_INTERRUPTED), 34 (the checkpoint of an interrupted batch), 36 (the figures of
an unfitted head), 45 (a batch recovered twice), 52 (the end of the start reckons no pool).
[04_the_batch_sequencer.md 4.9 The batch record; 04_the_batch_sequencer.md 4.10 Closing a batch; 09_press_heads.md
9.10 The head table; 09_press_heads.md 9.11 Return from a reset; 12_start_up_and_recovery.md 12.1 Reset causes;
12_start_up_and_recovery.md 12.2 The start sequence; 12_start_up_and_recovery.md 12.3 Listening and entering
service; 03_header_pools_and_grant_reckoning.md 3.7 Handing grants to the consumers;
11_setup_port_and_stored_settings.md 11.3 The commands; 11_setup_port_and_stored_settings.md 11.5 Taking settings
up, restarting and reset causes; 13_formats.md 13.4 Settings sections] -/
def Obligations.StartTaken : Prop :=
  (∀ s : State, s.start.mode = .starting → ∀ flags : CauseFlags,
    flags = s.start.causes.foldl CauseFlags.update (storedCauses s) →
    (s.store.sections.any (fun x => !x.good) = true →
      ∃ t, exec .startSequence s = .next t ∧ t.start.mode = .setupOnly ∧ t.config = s.config
        ∧ t.start.flags = flags ∧ t.start.causes = [] ∧ t.store.causes.latest = flags ∧ t.port.mode = .waiting
        ∧ t.store.sections = s.store.sections ∧ t.store.history = s.store.history
        ∧ t.store.checkpoint = s.store.checkpoint ∧ t.store.headTable = s.store.headTable
        ∧ OnlyChanges [.start, .lines, .store, .port, .link] s t)
    ∧ (∀ c : RunConfig, s.store.sections.any (fun x => !x.good) = false →
        loadConfig (s.store.sections.map Slot.stored) = c →
        ∃ t, exec .startSequence s = .next t ∧ t.start.mode = .listen ∧ t.start.listenMs = 2 * c.peerTimeout * 1000
          ∧ t.config = some c ∧ t.start.flags = flags ∧ t.start.causes = [] ∧ t.store.causes.latest = flags
          ∧ t.start.stationMs = 0 ∧ t.link.opening = true ∧ t.port.mode = .waiting ∧ held t = false
          ∧ t.peers = s.peers ∧ t.milk = s.milk ∧ t.air = s.air ∧ t.queue = s.queue
          ∧ t.store.sections = s.store.sections
          ∧ (s.store.sections.map (fun x => x.stored.length) = [2, 1, 24, 9, 5, 9, 19, 68, 68, 68, 68] →
              storedDiffers t = false)
          ∧ (∀ h, let x := s.store.headTable.get h
              let hd := t.head h
              (c.press.fitted ≤ h.val → hd.state = .unfitted ∧ hd.output = .released ∧ hd.badAtStart = !x.good
                  ∧ hd.failCount = (if x.good then x.stored.failCount else 0)
                  ∧ hd.occupied = (x.good && x.stored.occupied))
                ∧ (h.val < c.press.fitted → hd.output = .forcedOff ∧ hd.load = none ∧ hd.duty = 0
                    ∧ (x.good = false → hd.state = .out ∧ hd.badAtStart = true ∧ isPending .headOut t = true)
                    ∧ (x.good = true → hd.failCount = x.stored.failCount ∧ hd.occupied = x.stored.occupied)
                    ∧ (x.good = true → x.stored.occupied = true → hd.state = .unload
                        ∧ hd.pendingOut = decide (c.press.failLimit ≤ x.stored.failCount))
                    ∧ (x.good = true → x.stored.occupied = false → x.stored.failCount < c.press.failLimit →
                        hd.state = .free)
                    ∧ (x.good = true → x.stored.occupied = false → c.press.failLimit ≤ x.stored.failCount →
                        hd.state = .out ∧ isPending .headOut t = true)))
          ∧ (s.store.checkpoint.good = false →
              t.seq.step = .stopped ∧ t.seq.current = .none ∧ isPending .batchInterrupted t = true
                ∧ t.seq.counter = (((s.store.history.filter fun x => x.good).getLast?).map
                    fun x => x.latest.number).getD 0)
          ∧ (s.store.checkpoint.good = true → t.seq.counter = s.store.checkpoint.stored.lastNumber)
          ∧ (∀ r, s.store.checkpoint.good = true → s.store.checkpoint.stored.record = some r → r.outcome = .running →
              t.seq.step = .stopped ∧ t.seq.current = .closed r.number
                ∧ (r.laneClosed = false → isPending .batchInterrupted t = true))
          ∧ (s.store.checkpoint.good = true →
              (∀ r, s.store.checkpoint.stored.record = some r → r.outcome ≠ .running) →
              t.seq.step = .idle ∧ t.seq.current = .none)
          ∧ (s.lines.estop = true → isPending .estop t = true
              ∧ (s.alerts.pending = [] → (∀ l ∈ c.alertLevels, l ≤ 3) → t.alerts.beacon = .fast))
          ∧ (∀ x ∈ t.store.history, x.latest.laneClosed = true)
          ∧ (let kept := s.store.history.filter fun x => x.good
             let checkpoint : Option BatchRecord := if s.store.checkpoint.good then s.store.checkpoint.stored.record else none
             let newest := kept.getLast?.map fun x => x.latest.number
             let above := fun n : Nat => ∀ m, newest = some m → m < n
             let room := fun n : Nat => if above n then (kept.drop (kept.length - 7)).map Slot.latest else []
             let entered : List BatchRecord := match checkpoint with
               | none => kept.map Slot.latest
               | some r =>
                 if r.outcome = .running then room r.number ++ [{ r with outcome := .interrupted }]
                 else if above r.number then room r.number ++ [r] else kept.map Slot.latest
             let closed := fun r : BatchRecord => { r with
               flagged := r.flagged + (r.made - r.pressed), laneClosed := true,
               outcome := if r.outcome = .vatDone ∨ r.outcome = .running then .interrupted else r.outcome }
             t.store.history.map Slot.latest = entered.map (fun r => if r.laneClosed then r else closed r)
               ∧ (∀ r, r ∈ entered → r.laneClosed = false →
                   { kind := .report, dest := 0, body := (closed r).reportBody } ∈ t.link.queue ∨ 6 ≤ t.link.queue.length)
               ∧ (∀ r, r ∈ entered → r.laneClosed = false → r.outcome = .vatDone → isPending .batchInterrupted t = true)
               ∧ (∀ r, checkpoint = some r → r.outcome = .running → t.store.checkpoint.latest
                   = { lastNumber := s.store.checkpoint.stored.lastNumber, record := some { r with outcome := .interrupted } })
               ∧ ((∀ r, checkpoint = some r → r.outcome ≠ .running) → t.store.checkpoint = s.store.checkpoint))))
  ∧ (∀ s : State, s.start.mode ≠ .starting → exec .startSequence s = .next s)
  ∧ (∀ (c : RunConfig) (s : State), s.config = some c →
      (s.start.mode = .listen → s.start.listenMs = 0 →
        ∃ t, exec .listenTimerExpiry s = .next t ∧ t.start = { s.start with mode := .ready } ∧ t.link.changed = true
          ∧ (s.milk.own = none → t.milk.grant = 0) ∧ (s.air.own = none → t.air.grant = 0)
          ∧ OnlyChanges [.start, .link, .milk, .air, .fill, .press] s t)
      ∧ (s.start.mode ≠ .listen ∨ s.start.listenMs ≠ 0 → exec .listenTimerExpiry s = .next s))
  ∧ (∀ contents : List (List Byte), contents.map List.length = [2, 1, 24, 9, 5, 9, 19, 68, 68, 68, 68] →
      let c := loadConfig contents
      let b := fun n i => ((contents.getD (n - 1) []).getD i 0).toNat
      let w := fun n i => 256 * b n i + b n (i + 1)
      let pool := fun i : Nat => ({
        capacity := w 3 i, fullScale := w 3 (i + 2), lowEnter := w 3 (i + 4), lowLeave := w 3 (i + 6),
        starvedEnter := w 3 (i + 8), starvedLeave := w 3 (i + 10) } : PoolSettings)
      let recipe := fun n : Nat => ({
        presentMark := b n 0, minHeads := b n 1, loadsCount := b n 2, maxWait := b n 3, fillLevel := b n 4,
        fillRate := w n 5, fillFloor := w n 7, target := w n 9, allowance := w n 11, cover := w n 13,
        fillStir := w n 15, fillLimit := b n 17, doseTime := b n 18, mixTime := b n 19, mixSpeed := w n 20,
        period := b n 22, minSlope := w n 23, multiplier := b n 25, tMin := b n 26, tFallback := b n 27,
        tMax := b n 28, cutSpeed := w n 29, cutDuration := b n 31, rampTime := b n 32, stirSpeed := w n 33,
        stirTime := b n 35, pressLevel := b n 36, stageCount := b n 37,
        stages := [0, 1, 2, 3, 4, 5].map fun k =>
          { pressure := w n (38 + 5 * k), rate := w n (40 + 5 * k), hold := b n (42 + 5 * k) } } : Recipe)
      c.stationNumber = b 1 0 ∧ c.localSlot = b 1 1 ∧ c.peerTimeout = b 2 0 ∧ c.milk = pool 0 ∧ c.air = pool 12
        ∧ c.lines = {
            meter := b 4 0, turn := b 4 1, loadDone := b 4 2, start := b 4 3, reverseDwell := b 4 4,
            sense := { h1 := b 4 5, h2 := b 4 6, h3 := b 4 7, h4 := b 4 8 } }
        ∧ c.fill = { pulseVolume := w 5 0, rampStep := w 5 2, gain := b 5 4 }
        ∧ c.press = {
            fitted := b 6 0, rampAir := w 6 1, kf := b 6 3, kp := b 6 4, holdBand := b 6 5, holdFaultTime := b 6 6,
            failLimit := b 6 7, guardMode := b 6 8 }
        ∧ c.alertLevels = (contents.getD 6 []).map (fun x => x.toNat)
        ∧ c.recipes = { h1 := recipe 8, h2 := recipe 9, h3 := recipe 10, h4 := recipe 11 }
        ∧ (∀ n, 1 ≤ n → n ≤ 11 → configContents c n = contents.getD (n - 1) []))
  ∧ (∀ (l : LineSettings) (p : PressSettings) (r : Recipe) (code : Nat) (rising : Bool) (h : HeadNo),
      (code = 1 → countsEdge code rising = rising) ∧ (code = 2 → countsEdge code rising = !rising)
        ∧ (code = 3 → countsEdge code rising = true)
        ∧ (l.sense.get h = 0 → l.inverted.get h = false) ∧ (l.sense.get h = 1 → l.inverted.get h = true)
        ∧ (p.guardMode = 0 → p.guardVents = false) ∧ (p.guardMode = 1 → p.guardVents = true)
        ∧ (r.presentMark = 0 → r.isPresent = false) ∧ (r.presentMark = 1 → r.isPresent = true))

/-- A station after its first reset keeps every invariant. State.reset, the model's machine right after a power-on with
the store as delivered (log 8), has each of the ten properties that the invariant statements say every step keeps.
[12_start_up_and_recovery.md 12.1 Reset causes; 12_start_up_and_recovery.md 12.2 The start sequence] -/
def Obligations.ResetIsSound : Prop :=
  LinkSound State.reset ∧ PeersSound State.reset ∧ HoldSound State.reset ∧ FillSound State.reset
    ∧ LaneSound State.reset ∧ HistorySound State.reset ∧ AlertsSound State.reset ∧ GrantsSound State.reset
    ∧ KnifeSound State.reset ∧ RecordsSound State.reset

/-- Every step keeps the transmit queue's rules. In every state in which at most six frames are queued, at most one of
them a STATUS, and no frame stands queued or in flight outside LISTEN and READY, every step that goes on ends in
such a state. [01_the_make_room_link.md Frame kinds and when the station sends them; 01_the_make_room_link.md The
transmit queue; 01_the_make_room_link.md Number clash] -/
def Obligations.LinkStaysSound : Prop :=
  ∀ s t : State, LinkSound s → step s = .next t → LinkSound t

/-- Every step keeps the Peer Table's rules. In every state in which the table is empty before a configuration is
loaded, and else holds at most 31 records of other stations' numbers in ascending order, with one-byte sequence and
missed figures, a heard age of at most 60 s and no claim in a SILENT record, every step that goes on ends in such a
state. [02_the_peer_table.md 2.1 The table and its records; 02_the_peer_table.md 2.3 Counting missed frames;
02_the_peer_table.md 2.4 Ageing] -/
def Obligations.PeersStaySound : Prop :=
  ∀ s t : State, PeersSound s → step s = .next t → PeersSound t

/-- Every step keeps hold reasons to holdable steps and OUTLET to an unheld MOULDING. In every state in which a hold
reason stands only in a holdable step, and OUTLET is on only in MOULDING with no hold reason, every step that goes
on ends in such a state. [04_the_batch_sequencer.md 4.2 The hold-reason set; 04_the_batch_sequencer.md 4.8 MOULDING
held; 08_moulding_and_the_load_queue.md 8.2 The MOULDING step] -/
def Obligations.HoldStaysSound : Prop :=
  ∀ s t : State, HoldSound s → step s = .next t → HoldSound t

/-- Every step keeps the flow command within the grant and the valve and the pump to their phases. In every state in
which the flow command is at most the MILK grant and 0 outside an unheld FLOW, the duty at most 1000 and 0 with the
command 0, and the dose pump on only in an unheld DOSE, every step that goes on ends in such a state.
[05_vat_filling_and_dosing.md 5.3 FLOW; 05_vat_filling_and_dosing.md 5.6 The coagulant dose;
05_vat_filling_and_dosing.md 5.7 Holds, stops and resets at the Fill Unit; 03_header_pools_and_grant_reckoning.md
3.7 Handing grants to the consumers] -/
def Obligations.FillStaysSound : Prop :=
  ∀ s t : State, FillSound s → step s = .next t → FillSound t

/-- Every step keeps each load in one place and the queue in its order. In every state in which at most sixteen loads
are queued in ascending load sequence, no load stands in two places, none is above the counter and the queue hold is
active at fourteen loads or more and only then, every step that goes on ends in such a state.
[08_moulding_and_the_load_queue.md 8.1 The queue and its loads; 08_moulding_and_the_load_queue.md 8.3 Holding the
filler back; 08_moulding_and_the_load_queue.md 8.5 Handing loads to heads] -/
def Obligations.LaneStaysSound : Prop :=
  ∀ s t : State, LaneSound s → step s = .next t → LaneSound t

/-- Every step keeps at most eight history records, in increasing batch number, and a running record open on the lane.
In every state in which the batch history holds at most eight records whose batch numbers strictly increase from the
oldest to the newest, every step that goes on ends in such a state. The same holds of the states in which neither
the open record nor a RUNNING record of the checkpoint is closed on the lane. [04_the_batch_sequencer.md 4.10
Closing a batch; 12_start_up_and_recovery.md 12.2 The start sequence] -/
def Obligations.HistoryStaysSound : Prop :=
  (∀ s t : State, HistorySound s → step s = .next t → HistorySound t)
    ∧ (∀ s t : State, RecordsSound s → step s = .next t → RecordsSound t)

/-- Every step keeps one record for a kind, its minimum level, and the beacon to the pending set. In every state in
which the pending set holds at most one record for a kind, in the order of Table 10-1 and none below its minimum
level, and the beacon shows the highest pending level of 2 and 3, every step that goes on ends in such a state.
[10_alerts.md 10.1 Kinds and levels; 10_alerts.md 10.2 The pending set; 10_alerts.md 10.3 The beacon] -/
def Obligations.AlertsStaySound : Prop :=
  ∀ s t : State, AlertsSound s → step s = .next t → AlertsSound t

/-- Every step keeps a grant within its claim, at 0 outside READY, and handed to its consumer. In every state in which
each grant is at most the own claim's request, 0 without a claim and 0 outside READY, stands at its consumer as in
its pool, and a degraded tap is judged LOW, every step that goes on ends in such a state.
[03_header_pools_and_grant_reckoning.md 3.2 The band monitor; 03_header_pools_and_grant_reckoning.md 3.4 The own
claims; 03_header_pools_and_grant_reckoning.md 3.6 The walk; 03_header_pools_and_grant_reckoning.md 3.7 Handing
grants to the consumers] -/
def Obligations.GrantsStaySound : Prop :=
  ∀ s t : State, GrantsSound s → step s = .next t → GrantsSound t

/-- Every step keeps KNIFE RUN to the running states and the speed at 0 without it. In every state in which KNIFE RUN is
on exactly in STARTING and RUNNING and only with a job in force, and KNIFE SPEED is 0 while it is off, every step
that goes on ends in such a state. [07_knife_drive.md 7.1 Lines and state; 07_knife_drive.md 7.3 Starting, reversing
and replacing; 07_knife_drive.md 7.4 Turning and watching] -/
def Obligations.KnifeStaysSound : Prop :=
  ∀ s t : State, KnifeSound s → step s = .next t → KnifeSound t
end

