-- ==== Sys2Proof/Laws/Dispatch.lean ====
section
/-! SUPPORT. Each arm of exec, and an event as the next state it answers. -/

set_option Elab.async false

namespace Sys2Proof.Machine

@[simp] theorem exec_runJudged (run : Run) (s : State) :
    exec (.runJudged run) s = execRunJudged run s := rfl

@[simp] theorem exec_runFramingError (cause : RunBreak) (s : State) :
    exec (.runFramingError cause) s = execRunFramingError cause s := rfl

@[simp] theorem exec_linkErrorTallyFull (s : State) :
    exec .linkErrorTallyFull s = execLinkErrorTallyFull s := rfl

@[simp] theorem exec_statusBuild (s : State) :
    exec .statusBuild s = execStatusBuild s := rfl

@[simp] theorem exec_openingSecondEnd (s : State) :
    exec .openingSecondEnd s = execOpeningSecondEnd s := rfl

@[simp] theorem exec_transmissionAttemptStart (idleMicros : Nat) (s : State) :
    exec (.transmissionAttemptStart idleMicros) s = execTransmissionAttemptStart idleMicros s := rfl

@[simp] theorem exec_collision (s : State) :
    exec .collision s = execCollision s := rfl

@[simp] theorem exec_txDropped (s : State) :
    exec .txDropped s = execTxDropped s := rfl

@[simp] theorem exec_backoffExpiry (idleMicros : Nat) (s : State) :
    exec (.backoffExpiry idleMicros) s = execBackoffExpiry idleMicros s := rfl

@[simp] theorem exec_frameSent (s : State) :
    exec .frameSent s = execFrameSent s := rfl

@[simp] theorem exec_orderStart (sender arg tag : Byte) (s : State) :
    exec (.orderStart sender arg tag) s = execOrderStart sender arg tag s := rfl

@[simp] theorem exec_orderHold (all : Bool) (sender arg tag : Byte) (s : State) :
    exec (.orderHold all sender arg tag) s = execOrderHold all sender arg tag s := rfl

@[simp] theorem exec_orderResume (all : Bool) (sender arg tag : Byte) (s : State) :
    exec (.orderResume all sender arg tag) s = execOrderResume all sender arg tag s := rfl

@[simp] theorem exec_orderAbort (sender arg tag : Byte) (s : State) :
    exec (.orderAbort sender arg tag) s = execOrderAbort sender arg tag s := rfl

@[simp] theorem exec_orderCutNow (sender arg tag : Byte) (s : State) :
    exec (.orderCutNow sender arg tag) s = execOrderCutNow sender arg tag s := rfl

@[simp] theorem exec_orderClear (sender arg tag : Byte) (s : State) :
    exec (.orderClear sender arg tag) s = execOrderClear sender arg tag s := rfl

@[simp] theorem exec_orderAck (sender arg tag : Byte) (s : State) :
    exec (.orderAck sender arg tag) s = execOrderAck sender arg tag s := rfl

@[simp] theorem exec_orderUnknown (all : Bool) (sender code arg tag : Byte) (s : State) :
    exec (.orderUnknown all sender code arg tag) s = execOrderUnknown all sender code arg tag s := rfl

@[simp] theorem exec_peerTimeout (number : Nat) (s : State) :
    exec (.peerTimeout number) s = execPeerTimeout number s := rfl

@[simp] theorem exec_peerRecordRemoval (number : Nat) (s : State) :
    exec (.peerRecordRemoval number) s = execPeerRecordRemoval number s := rfl

@[simp] theorem exec_bandSample (milkRaw airRaw : Raw) (s : State) :
    exec (.bandSample milkRaw airRaw) s = execBandSample milkRaw airRaw s := rfl

@[simp] theorem exec_bandChange (pool : Pool) (s : State) :
    exec (.bandChange pool) s = execBandChange pool s := rfl

@[simp] theorem exec_tapDegraded (pool : Pool) (s : State) :
    exec (.tapDegraded pool) s = execTapDegraded pool s := rfl

@[simp] theorem exec_degradedEnd (pool : Pool) (s : State) :
    exec (.degradedEnd pool) s = execDegradedEnd pool s := rfl

@[simp] theorem exec_onceASecondReckoning (s : State) :
    exec .onceASecondReckoning s = execOnceASecondReckoning s := rfl

@[simp] theorem exec_waitedStepAdvance (pool : Pool) (s : State) :
    exec (.waitedStepAdvance pool) s = execWaitedStepAdvance pool s := rfl

@[simp] theorem exec_holdLineActive (s : State) :
    exec .holdLineActive s = execHoldLineActive s := rfl

@[simp] theorem exec_holdLineInactive (s : State) :
    exec .holdLineInactive s = execHoldLineInactive s := rfl

@[simp] theorem exec_startLineEdge (rising : Bool) (s : State) :
    exec (.startLineEdge rising) s = execStartLineEdge rising s := rfl

@[simp] theorem exec_estopLineActive (s : State) :
    exec .estopLineActive s = execEstopLineActive s := rfl

@[simp] theorem exec_estopLineInactive (s : State) :
    exec .estopLineInactive s = execEstopLineInactive s := rfl

@[simp] theorem exec_checkpointWriteDone (s : State) :
    exec .checkpointWriteDone s = execCheckpointWriteDone s := rfl

@[simp] theorem exec_historyWriteDone (number : Nat) (s : State) :
    exec (.historyWriteDone number) s = execHistoryWriteDone number s := rfl

@[simp] theorem exec_meterEdge (rising : Bool) (s : State) :
    exec (.meterEdge rising) s = execMeterEdge rising s := rfl

@[simp] theorem exec_coverVolumeReached (s : State) :
    exec .coverVolumeReached s = execCoverVolumeReached s := rfl

@[simp] theorem exec_fillTargetReached (s : State) :
    exec .fillTargetReached s = execFillTargetReached s := rfl

@[simp] theorem exec_fillSecond (s : State) :
    exec .fillSecond s = execFillSecond s := rfl

@[simp] theorem exec_meterFault (s : State) :
    exec .meterFault s = execMeterFault s := rfl

@[simp] theorem exec_fillSlow (s : State) :
    exec .fillSlow s = execFillSlow s := rfl

@[simp] theorem exec_settleEnd (s : State) :
    exec .settleEnd s = execSettleEnd s := rfl

@[simp] theorem exec_doseEnd (s : State) :
    exec .doseEnd s = execDoseEnd s := rfl

@[simp] theorem exec_setClockSecond (s : State) :
    exec .setClockSecond s = execSetClockSecond s := rfl

@[simp] theorem exec_mixEnd (s : State) :
    exec .mixEnd s = execMixEnd s := rfl

@[simp] theorem exec_sampleComplete (raw : Raw) (s : State) :
    exec (.sampleComplete raw) s = execSampleComplete raw s := rfl

@[simp] theorem exec_firmnessSensor (s : State) :
    exec .firmnessSensor s = execFirmnessSensor s := rfl

@[simp] theorem exec_noFloc (s : State) :
    exec .noFloc s = execNoFloc s := rfl

@[simp] theorem exec_cutDue (s : State) :
    exec .cutDue s = execCutDue s := rfl

@[simp] theorem exec_reverseDwellEnd (s : State) :
    exec .reverseDwellEnd s = execReverseDwellEnd s := rfl

@[simp] theorem exec_startGraceEnd (s : State) :
    exec .startGraceEnd s = execStartGraceEnd s := rfl

@[simp] theorem exec_driveSecond (s : State) :
    exec .driveSecond s = execDriveSecond s := rfl

@[simp] theorem exec_cutDurationRun (s : State) :
    exec .cutDurationRun s = execCutDurationRun s := rfl

@[simp] theorem exec_rampTimeRun (s : State) :
    exec .rampTimeRun s = execRampTimeRun s := rfl

@[simp] theorem exec_stirTimeRun (s : State) :
    exec .stirTimeRun s = execStirTimeRun s := rfl

@[simp] theorem exec_turnEdge (rising : Bool) (s : State) :
    exec (.turnEdge rising) s = execTurnEdge rising s := rfl

@[simp] theorem exec_knifeStall (s : State) :
    exec .knifeStall s = execKnifeStall s := rfl

@[simp] theorem exec_driveFaultActive (level : Bool) (s : State) :
    exec (.driveFaultActive level) s = execDriveFaultActive level s := rfl

@[simp] theorem exec_loadDoneEdge (rising : Bool) (s : State) :
    exec (.loadDoneEdge rising) s = execLoadDoneEdge rising s := rfl

@[simp] theorem exec_mouldingEnd (s : State) :
    exec .mouldingEnd s = execMouldingEnd s := rfl

@[simp] theorem exec_vatEmptyActive (level : Bool) (s : State) :
    exec (.vatEmptyActive level) s = execVatEmptyActive level s := rfl

@[simp] theorem exec_loadLate (sequence : Nat) (s : State) :
    exec (.loadLate sequence) s = execLoadLate sequence s := rfl

@[simp] theorem exec_driveSample (raw1 raw2 raw3 raw4 : Raw) (s : State) :
    exec (.driveSample raw1 raw2 raw3 raw4) s = execDriveSample raw1 raw2 raw3 raw4 s := rfl

@[simp] theorem exec_pressSecond (raw1 raw2 raw3 raw4 : Raw) (s : State) :
    exec (.pressSecond raw1 raw2 raw3 raw4) s = execPressSecond raw1 raw2 raw3 raw4 s := rfl

@[simp] theorem exec_stageHoldEnd (head : HeadNo) (s : State) :
    exec (.stageHoldEnd head) s = execStageHoldEnd head s := rfl

@[simp] theorem exec_holdUnderpressure (head : HeadNo) (s : State) :
    exec (.holdUnderpressure head) s = execHoldUnderpressure head s := rfl

@[simp] theorem exec_headPendingOut (head : HeadNo) (s : State) :
    exec (.headPendingOut head) s = execHeadPendingOut head s := rfl

@[simp] theorem exec_ventEnd (head : HeadNo) (s : State) :
    exec (.ventEnd head) s = execVentEnd head s := rfl

@[simp] theorem exec_headUnload (head : HeadNo) (s : State) :
    exec (.headUnload head) s = execHeadUnload head s := rfl

@[simp] theorem exec_guardOpen (s : State) :
    exec .guardOpen s = execGuardOpen s := rfl

@[simp] theorem exec_guardClose (s : State) :
    exec .guardClose s = execGuardClose s := rfl

@[simp] theorem exec_headRecordWriteDone (head : HeadNo) (s : State) :
    exec (.headRecordWriteDone head) s = execHeadRecordWriteDone head s := rfl

@[simp] theorem exec_setupFrameAbandon (gapMicros : Nat) (s : State) :
    exec (.setupFrameAbandon gapMicros) s = execSetupFrameAbandon gapMicros s := rfl

@[simp] theorem exec_setupCharacterDiscard (character : Byte) (s : State) :
    exec (.setupCharacterDiscard character) s = execSetupCharacterDiscard character s := rfl

@[simp] theorem exec_setupUnknownCommand (code : Byte) (body : List Byte) (s : State) :
    exec (.setupUnknownCommand code body) s = execSetupUnknownCommand code body s := rfl

@[simp] theorem exec_responseSent (s : State) :
    exec .responseSent s = execResponseSent s := rfl

@[simp] theorem exec_identify (body : List Byte) (s : State) :
    exec (.identify body) s = execIdentify body s := rfl

@[simp] theorem exec_readSettings (body : List Byte) (s : State) :
    exec (.readSettings body) s = execReadSettings body s := rfl

@[simp] theorem exec_writeSettings (body : List Byte) (s : State) :
    exec (.writeSettings body) s = execWriteSettings body s := rfl

@[simp] theorem exec_settingsProgramDone (held : List Byte) (crcGood : Bool) (s : State) :
    exec (.settingsProgramDone held crcGood) s = execSettingsProgramDone held crcGood s := rfl

@[simp] theorem exec_checkSettings (body : List Byte) (s : State) :
    exec (.checkSettings body) s = execCheckSettings body s := rfl

@[simp] theorem exec_eraseSettings (body : List Byte) (s : State) :
    exec (.eraseSettings body) s = execEraseSettings body s := rfl

@[simp] theorem exec_readLink (body : List Byte) (s : State) :
    exec (.readLink body) s = execReadLink body s := rfl

@[simp] theorem exec_readPeers (body : List Byte) (s : State) :
    exec (.readPeers body) s = execReadPeers body s := rfl

@[simp] theorem exec_readPools (body : List Byte) (s : State) :
    exec (.readPools body) s = execReadPools body s := rfl

@[simp] theorem exec_readBatches (body : List Byte) (s : State) :
    exec (.readBatches body) s = execReadBatches body s := rfl

@[simp] theorem exec_readFill (body : List Byte) (s : State) :
    exec (.readFill body) s = execReadFill body s := rfl

@[simp] theorem exec_readFirmness (body : List Byte) (s : State) :
    exec (.readFirmness body) s = execReadFirmness body s := rfl

@[simp] theorem exec_readKnife (body : List Byte) (s : State) :
    exec (.readKnife body) s = execReadKnife body s := rfl

@[simp] theorem exec_readQueue (body : List Byte) (s : State) :
    exec (.readQueue body) s = execReadQueue body s := rfl

@[simp] theorem exec_readHeads (body : List Byte) (s : State) :
    exec (.readHeads body) s = execReadHeads body s := rfl

@[simp] theorem exec_readAlerts (body : List Byte) (s : State) :
    exec (.readAlerts body) s = execReadAlerts body s := rfl

@[simp] theorem exec_readCauses (body : List Byte) (s : State) :
    exec (.readCauses body) s = execReadCauses body s := rfl

@[simp] theorem exec_clearHeadFaults (body : List Byte) (s : State) :
    exec (.clearHeadFaults body) s = execClearHeadFaults body s := rfl

@[simp] theorem exec_ackAlert (body : List Byte) (s : State) :
    exec (.ackAlert body) s = execAckAlert body s := rfl

@[simp] theorem exec_clearCauses (body : List Byte) (s : State) :
    exec (.clearCauses body) s = execClearCauses body s := rfl

@[simp] theorem exec_restart (body : List Byte) (s : State) :
    exec (.restart body) s = execRestart body s := rfl

@[simp] theorem exec_causeRecordWriteDone (held : Byte) (crcGood : Bool) (s : State) :
    exec (.causeRecordWriteDone held crcGood) s = execCauseRecordWriteDone held crcGood s := rfl

@[simp] theorem exec_reset (cause : Cause) (s : State) :
    exec (.reset cause) s = execReset cause s := rfl

@[simp] theorem exec_startSequence (s : State) :
    exec .startSequence s = execStartSequence s := rfl

@[simp] theorem exec_listenTimerExpiry (s : State) :
    exec .listenTimerExpiry s = execListenTimerExpiry s := rfl

@[simp] theorem exec_firmnessReading (raw : Raw) (s : State) :
    exec (.firmnessReading raw) s = execFirmnessReading raw s := rfl

@[simp] theorem exec_outputPeriodEnd (head : HeadNo) (s : State) :
    exec (.outputPeriodEnd head) s = execOutputPeriodEnd head s := rfl

@[simp] theorem exec_commandFrameBegin (s : State) :
    exec .commandFrameBegin s = execCommandFrameBegin s := rfl

@[simp] theorem exec_commandCrcFailed (code : Byte) (body : List Byte) (crc : BitVec 16) (s : State) :
    exec (.commandCrcFailed code body crc) s = execCommandCrcFailed code body crc s := rfl

@[simp] theorem event_eq (before after : State) : event before after = .next (noteStatus before after) := rfl

end Sys2Proof.Machine
end

