-- ==== Sys2Proof/Laws/State.lean ====
section
/-! SUPPORT. One lemma for each field and each block update of State, true by unfolding, so that no later proof unfolds a
record update. -/

set_option Elab.async false

namespace Sys2Proof.Machine

@[simp] theorem State.setPending_pending (s : State) (x : List Instr) : (s.setPending x).pending = x := rfl
@[simp] theorem State.setPending_lines (s : State) (x : List Instr) : (s.setPending x).lines = s.lines := rfl
@[simp] theorem State.setPending_start (s : State) (x : List Instr) : (s.setPending x).start = s.start := rfl
@[simp] theorem State.setPending_config (s : State) (x : List Instr) : (s.setPending x).config = s.config := rfl
@[simp] theorem State.setPending_link (s : State) (x : List Instr) : (s.setPending x).link = s.link := rfl
@[simp] theorem State.setPending_peers (s : State) (x : List Instr) : (s.setPending x).peers = s.peers := rfl
@[simp] theorem State.setPending_milk (s : State) (x : List Instr) : (s.setPending x).milk = s.milk := rfl
@[simp] theorem State.setPending_air (s : State) (x : List Instr) : (s.setPending x).air = s.air := rfl
@[simp] theorem State.setPending_seq (s : State) (x : List Instr) : (s.setPending x).seq = s.seq := rfl
@[simp] theorem State.setPending_fill (s : State) (x : List Instr) : (s.setPending x).fill = s.fill := rfl
@[simp] theorem State.setPending_coag (s : State) (x : List Instr) : (s.setPending x).coag = s.coag := rfl
@[simp] theorem State.setPending_knife (s : State) (x : List Instr) : (s.setPending x).knife = s.knife := rfl
@[simp] theorem State.setPending_queue (s : State) (x : List Instr) : (s.setPending x).queue = s.queue := rfl
@[simp] theorem State.setPending_press (s : State) (x : List Instr) : (s.setPending x).press = s.press := rfl
@[simp] theorem State.setPending_alerts (s : State) (x : List Instr) : (s.setPending x).alerts = s.alerts := rfl
@[simp] theorem State.setPending_port (s : State) (x : List Instr) : (s.setPending x).port = s.port := rfl
@[simp] theorem State.setPending_store (s : State) (x : List Instr) : (s.setPending x).store = s.store := rfl
@[simp] theorem State.setPending_free (s : State) (x : List Instr) : (s.setPending x).free = s.free := rfl

@[simp] theorem State.setLines_pending (s : State) (x : Lines) : (s.setLines x).pending = s.pending := rfl
@[simp] theorem State.setLines_lines (s : State) (x : Lines) : (s.setLines x).lines = x := rfl
@[simp] theorem State.setLines_start (s : State) (x : Lines) : (s.setLines x).start = s.start := rfl
@[simp] theorem State.setLines_config (s : State) (x : Lines) : (s.setLines x).config = s.config := rfl
@[simp] theorem State.setLines_link (s : State) (x : Lines) : (s.setLines x).link = s.link := rfl
@[simp] theorem State.setLines_peers (s : State) (x : Lines) : (s.setLines x).peers = s.peers := rfl
@[simp] theorem State.setLines_milk (s : State) (x : Lines) : (s.setLines x).milk = s.milk := rfl
@[simp] theorem State.setLines_air (s : State) (x : Lines) : (s.setLines x).air = s.air := rfl
@[simp] theorem State.setLines_seq (s : State) (x : Lines) : (s.setLines x).seq = s.seq := rfl
@[simp] theorem State.setLines_fill (s : State) (x : Lines) : (s.setLines x).fill = s.fill := rfl
@[simp] theorem State.setLines_coag (s : State) (x : Lines) : (s.setLines x).coag = s.coag := rfl
@[simp] theorem State.setLines_knife (s : State) (x : Lines) : (s.setLines x).knife = s.knife := rfl
@[simp] theorem State.setLines_queue (s : State) (x : Lines) : (s.setLines x).queue = s.queue := rfl
@[simp] theorem State.setLines_press (s : State) (x : Lines) : (s.setLines x).press = s.press := rfl
@[simp] theorem State.setLines_alerts (s : State) (x : Lines) : (s.setLines x).alerts = s.alerts := rfl
@[simp] theorem State.setLines_port (s : State) (x : Lines) : (s.setLines x).port = s.port := rfl
@[simp] theorem State.setLines_store (s : State) (x : Lines) : (s.setLines x).store = s.store := rfl
@[simp] theorem State.setLines_free (s : State) (x : Lines) : (s.setLines x).free = s.free := rfl

@[simp] theorem State.setStart_pending (s : State) (x : StartState) : (s.setStart x).pending = s.pending := rfl
@[simp] theorem State.setStart_lines (s : State) (x : StartState) : (s.setStart x).lines = s.lines := rfl
@[simp] theorem State.setStart_start (s : State) (x : StartState) : (s.setStart x).start = x := rfl
@[simp] theorem State.setStart_config (s : State) (x : StartState) : (s.setStart x).config = s.config := rfl
@[simp] theorem State.setStart_link (s : State) (x : StartState) : (s.setStart x).link = s.link := rfl
@[simp] theorem State.setStart_peers (s : State) (x : StartState) : (s.setStart x).peers = s.peers := rfl
@[simp] theorem State.setStart_milk (s : State) (x : StartState) : (s.setStart x).milk = s.milk := rfl
@[simp] theorem State.setStart_air (s : State) (x : StartState) : (s.setStart x).air = s.air := rfl
@[simp] theorem State.setStart_seq (s : State) (x : StartState) : (s.setStart x).seq = s.seq := rfl
@[simp] theorem State.setStart_fill (s : State) (x : StartState) : (s.setStart x).fill = s.fill := rfl
@[simp] theorem State.setStart_coag (s : State) (x : StartState) : (s.setStart x).coag = s.coag := rfl
@[simp] theorem State.setStart_knife (s : State) (x : StartState) : (s.setStart x).knife = s.knife := rfl
@[simp] theorem State.setStart_queue (s : State) (x : StartState) : (s.setStart x).queue = s.queue := rfl
@[simp] theorem State.setStart_press (s : State) (x : StartState) : (s.setStart x).press = s.press := rfl
@[simp] theorem State.setStart_alerts (s : State) (x : StartState) : (s.setStart x).alerts = s.alerts := rfl
@[simp] theorem State.setStart_port (s : State) (x : StartState) : (s.setStart x).port = s.port := rfl
@[simp] theorem State.setStart_store (s : State) (x : StartState) : (s.setStart x).store = s.store := rfl
@[simp] theorem State.setStart_free (s : State) (x : StartState) : (s.setStart x).free = s.free := rfl

@[simp] theorem State.setConfig_pending (s : State) (x : Option RunConfig) : (s.setConfig x).pending = s.pending := rfl
@[simp] theorem State.setConfig_lines (s : State) (x : Option RunConfig) : (s.setConfig x).lines = s.lines := rfl
@[simp] theorem State.setConfig_start (s : State) (x : Option RunConfig) : (s.setConfig x).start = s.start := rfl
@[simp] theorem State.setConfig_config (s : State) (x : Option RunConfig) : (s.setConfig x).config = x := rfl
@[simp] theorem State.setConfig_link (s : State) (x : Option RunConfig) : (s.setConfig x).link = s.link := rfl
@[simp] theorem State.setConfig_peers (s : State) (x : Option RunConfig) : (s.setConfig x).peers = s.peers := rfl
@[simp] theorem State.setConfig_milk (s : State) (x : Option RunConfig) : (s.setConfig x).milk = s.milk := rfl
@[simp] theorem State.setConfig_air (s : State) (x : Option RunConfig) : (s.setConfig x).air = s.air := rfl
@[simp] theorem State.setConfig_seq (s : State) (x : Option RunConfig) : (s.setConfig x).seq = s.seq := rfl
@[simp] theorem State.setConfig_fill (s : State) (x : Option RunConfig) : (s.setConfig x).fill = s.fill := rfl
@[simp] theorem State.setConfig_coag (s : State) (x : Option RunConfig) : (s.setConfig x).coag = s.coag := rfl
@[simp] theorem State.setConfig_knife (s : State) (x : Option RunConfig) : (s.setConfig x).knife = s.knife := rfl
@[simp] theorem State.setConfig_queue (s : State) (x : Option RunConfig) : (s.setConfig x).queue = s.queue := rfl
@[simp] theorem State.setConfig_press (s : State) (x : Option RunConfig) : (s.setConfig x).press = s.press := rfl
@[simp] theorem State.setConfig_alerts (s : State) (x : Option RunConfig) : (s.setConfig x).alerts = s.alerts := rfl
@[simp] theorem State.setConfig_port (s : State) (x : Option RunConfig) : (s.setConfig x).port = s.port := rfl
@[simp] theorem State.setConfig_store (s : State) (x : Option RunConfig) : (s.setConfig x).store = s.store := rfl
@[simp] theorem State.setConfig_free (s : State) (x : Option RunConfig) : (s.setConfig x).free = s.free := rfl

@[simp] theorem State.setLink_pending (s : State) (x : LinkState) : (s.setLink x).pending = s.pending := rfl
@[simp] theorem State.setLink_lines (s : State) (x : LinkState) : (s.setLink x).lines = s.lines := rfl
@[simp] theorem State.setLink_start (s : State) (x : LinkState) : (s.setLink x).start = s.start := rfl
@[simp] theorem State.setLink_config (s : State) (x : LinkState) : (s.setLink x).config = s.config := rfl
@[simp] theorem State.setLink_link (s : State) (x : LinkState) : (s.setLink x).link = x := rfl
@[simp] theorem State.setLink_peers (s : State) (x : LinkState) : (s.setLink x).peers = s.peers := rfl
@[simp] theorem State.setLink_milk (s : State) (x : LinkState) : (s.setLink x).milk = s.milk := rfl
@[simp] theorem State.setLink_air (s : State) (x : LinkState) : (s.setLink x).air = s.air := rfl
@[simp] theorem State.setLink_seq (s : State) (x : LinkState) : (s.setLink x).seq = s.seq := rfl
@[simp] theorem State.setLink_fill (s : State) (x : LinkState) : (s.setLink x).fill = s.fill := rfl
@[simp] theorem State.setLink_coag (s : State) (x : LinkState) : (s.setLink x).coag = s.coag := rfl
@[simp] theorem State.setLink_knife (s : State) (x : LinkState) : (s.setLink x).knife = s.knife := rfl
@[simp] theorem State.setLink_queue (s : State) (x : LinkState) : (s.setLink x).queue = s.queue := rfl
@[simp] theorem State.setLink_press (s : State) (x : LinkState) : (s.setLink x).press = s.press := rfl
@[simp] theorem State.setLink_alerts (s : State) (x : LinkState) : (s.setLink x).alerts = s.alerts := rfl
@[simp] theorem State.setLink_port (s : State) (x : LinkState) : (s.setLink x).port = s.port := rfl
@[simp] theorem State.setLink_store (s : State) (x : LinkState) : (s.setLink x).store = s.store := rfl
@[simp] theorem State.setLink_free (s : State) (x : LinkState) : (s.setLink x).free = s.free := rfl

@[simp] theorem State.setPeers_pending (s : State) (x : PeerTable) : (s.setPeers x).pending = s.pending := rfl
@[simp] theorem State.setPeers_lines (s : State) (x : PeerTable) : (s.setPeers x).lines = s.lines := rfl
@[simp] theorem State.setPeers_start (s : State) (x : PeerTable) : (s.setPeers x).start = s.start := rfl
@[simp] theorem State.setPeers_config (s : State) (x : PeerTable) : (s.setPeers x).config = s.config := rfl
@[simp] theorem State.setPeers_link (s : State) (x : PeerTable) : (s.setPeers x).link = s.link := rfl
@[simp] theorem State.setPeers_peers (s : State) (x : PeerTable) : (s.setPeers x).peers = x := rfl
@[simp] theorem State.setPeers_milk (s : State) (x : PeerTable) : (s.setPeers x).milk = s.milk := rfl
@[simp] theorem State.setPeers_air (s : State) (x : PeerTable) : (s.setPeers x).air = s.air := rfl
@[simp] theorem State.setPeers_seq (s : State) (x : PeerTable) : (s.setPeers x).seq = s.seq := rfl
@[simp] theorem State.setPeers_fill (s : State) (x : PeerTable) : (s.setPeers x).fill = s.fill := rfl
@[simp] theorem State.setPeers_coag (s : State) (x : PeerTable) : (s.setPeers x).coag = s.coag := rfl
@[simp] theorem State.setPeers_knife (s : State) (x : PeerTable) : (s.setPeers x).knife = s.knife := rfl
@[simp] theorem State.setPeers_queue (s : State) (x : PeerTable) : (s.setPeers x).queue = s.queue := rfl
@[simp] theorem State.setPeers_press (s : State) (x : PeerTable) : (s.setPeers x).press = s.press := rfl
@[simp] theorem State.setPeers_alerts (s : State) (x : PeerTable) : (s.setPeers x).alerts = s.alerts := rfl
@[simp] theorem State.setPeers_port (s : State) (x : PeerTable) : (s.setPeers x).port = s.port := rfl
@[simp] theorem State.setPeers_store (s : State) (x : PeerTable) : (s.setPeers x).store = s.store := rfl
@[simp] theorem State.setPeers_free (s : State) (x : PeerTable) : (s.setPeers x).free = s.free := rfl

@[simp] theorem State.setMilk_pending (s : State) (x : PoolState) : (s.setMilk x).pending = s.pending := rfl
@[simp] theorem State.setMilk_lines (s : State) (x : PoolState) : (s.setMilk x).lines = s.lines := rfl
@[simp] theorem State.setMilk_start (s : State) (x : PoolState) : (s.setMilk x).start = s.start := rfl
@[simp] theorem State.setMilk_config (s : State) (x : PoolState) : (s.setMilk x).config = s.config := rfl
@[simp] theorem State.setMilk_link (s : State) (x : PoolState) : (s.setMilk x).link = s.link := rfl
@[simp] theorem State.setMilk_peers (s : State) (x : PoolState) : (s.setMilk x).peers = s.peers := rfl
@[simp] theorem State.setMilk_milk (s : State) (x : PoolState) : (s.setMilk x).milk = x := rfl
@[simp] theorem State.setMilk_air (s : State) (x : PoolState) : (s.setMilk x).air = s.air := rfl
@[simp] theorem State.setMilk_seq (s : State) (x : PoolState) : (s.setMilk x).seq = s.seq := rfl
@[simp] theorem State.setMilk_fill (s : State) (x : PoolState) : (s.setMilk x).fill = s.fill := rfl
@[simp] theorem State.setMilk_coag (s : State) (x : PoolState) : (s.setMilk x).coag = s.coag := rfl
@[simp] theorem State.setMilk_knife (s : State) (x : PoolState) : (s.setMilk x).knife = s.knife := rfl
@[simp] theorem State.setMilk_queue (s : State) (x : PoolState) : (s.setMilk x).queue = s.queue := rfl
@[simp] theorem State.setMilk_press (s : State) (x : PoolState) : (s.setMilk x).press = s.press := rfl
@[simp] theorem State.setMilk_alerts (s : State) (x : PoolState) : (s.setMilk x).alerts = s.alerts := rfl
@[simp] theorem State.setMilk_port (s : State) (x : PoolState) : (s.setMilk x).port = s.port := rfl
@[simp] theorem State.setMilk_store (s : State) (x : PoolState) : (s.setMilk x).store = s.store := rfl
@[simp] theorem State.setMilk_free (s : State) (x : PoolState) : (s.setMilk x).free = s.free := rfl

@[simp] theorem State.setAir_pending (s : State) (x : PoolState) : (s.setAir x).pending = s.pending := rfl
@[simp] theorem State.setAir_lines (s : State) (x : PoolState) : (s.setAir x).lines = s.lines := rfl
@[simp] theorem State.setAir_start (s : State) (x : PoolState) : (s.setAir x).start = s.start := rfl
@[simp] theorem State.setAir_config (s : State) (x : PoolState) : (s.setAir x).config = s.config := rfl
@[simp] theorem State.setAir_link (s : State) (x : PoolState) : (s.setAir x).link = s.link := rfl
@[simp] theorem State.setAir_peers (s : State) (x : PoolState) : (s.setAir x).peers = s.peers := rfl
@[simp] theorem State.setAir_milk (s : State) (x : PoolState) : (s.setAir x).milk = s.milk := rfl
@[simp] theorem State.setAir_air (s : State) (x : PoolState) : (s.setAir x).air = x := rfl
@[simp] theorem State.setAir_seq (s : State) (x : PoolState) : (s.setAir x).seq = s.seq := rfl
@[simp] theorem State.setAir_fill (s : State) (x : PoolState) : (s.setAir x).fill = s.fill := rfl
@[simp] theorem State.setAir_coag (s : State) (x : PoolState) : (s.setAir x).coag = s.coag := rfl
@[simp] theorem State.setAir_knife (s : State) (x : PoolState) : (s.setAir x).knife = s.knife := rfl
@[simp] theorem State.setAir_queue (s : State) (x : PoolState) : (s.setAir x).queue = s.queue := rfl
@[simp] theorem State.setAir_press (s : State) (x : PoolState) : (s.setAir x).press = s.press := rfl
@[simp] theorem State.setAir_alerts (s : State) (x : PoolState) : (s.setAir x).alerts = s.alerts := rfl
@[simp] theorem State.setAir_port (s : State) (x : PoolState) : (s.setAir x).port = s.port := rfl
@[simp] theorem State.setAir_store (s : State) (x : PoolState) : (s.setAir x).store = s.store := rfl
@[simp] theorem State.setAir_free (s : State) (x : PoolState) : (s.setAir x).free = s.free := rfl

@[simp] theorem State.setSeq_pending (s : State) (x : SeqState) : (s.setSeq x).pending = s.pending := rfl
@[simp] theorem State.setSeq_lines (s : State) (x : SeqState) : (s.setSeq x).lines = s.lines := rfl
@[simp] theorem State.setSeq_start (s : State) (x : SeqState) : (s.setSeq x).start = s.start := rfl
@[simp] theorem State.setSeq_config (s : State) (x : SeqState) : (s.setSeq x).config = s.config := rfl
@[simp] theorem State.setSeq_link (s : State) (x : SeqState) : (s.setSeq x).link = s.link := rfl
@[simp] theorem State.setSeq_peers (s : State) (x : SeqState) : (s.setSeq x).peers = s.peers := rfl
@[simp] theorem State.setSeq_milk (s : State) (x : SeqState) : (s.setSeq x).milk = s.milk := rfl
@[simp] theorem State.setSeq_air (s : State) (x : SeqState) : (s.setSeq x).air = s.air := rfl
@[simp] theorem State.setSeq_seq (s : State) (x : SeqState) : (s.setSeq x).seq = x := rfl
@[simp] theorem State.setSeq_fill (s : State) (x : SeqState) : (s.setSeq x).fill = s.fill := rfl
@[simp] theorem State.setSeq_coag (s : State) (x : SeqState) : (s.setSeq x).coag = s.coag := rfl
@[simp] theorem State.setSeq_knife (s : State) (x : SeqState) : (s.setSeq x).knife = s.knife := rfl
@[simp] theorem State.setSeq_queue (s : State) (x : SeqState) : (s.setSeq x).queue = s.queue := rfl
@[simp] theorem State.setSeq_press (s : State) (x : SeqState) : (s.setSeq x).press = s.press := rfl
@[simp] theorem State.setSeq_alerts (s : State) (x : SeqState) : (s.setSeq x).alerts = s.alerts := rfl
@[simp] theorem State.setSeq_port (s : State) (x : SeqState) : (s.setSeq x).port = s.port := rfl
@[simp] theorem State.setSeq_store (s : State) (x : SeqState) : (s.setSeq x).store = s.store := rfl
@[simp] theorem State.setSeq_free (s : State) (x : SeqState) : (s.setSeq x).free = s.free := rfl

@[simp] theorem State.setFill_pending (s : State) (x : FillState) : (s.setFill x).pending = s.pending := rfl
@[simp] theorem State.setFill_lines (s : State) (x : FillState) : (s.setFill x).lines = s.lines := rfl
@[simp] theorem State.setFill_start (s : State) (x : FillState) : (s.setFill x).start = s.start := rfl
@[simp] theorem State.setFill_config (s : State) (x : FillState) : (s.setFill x).config = s.config := rfl
@[simp] theorem State.setFill_link (s : State) (x : FillState) : (s.setFill x).link = s.link := rfl
@[simp] theorem State.setFill_peers (s : State) (x : FillState) : (s.setFill x).peers = s.peers := rfl
@[simp] theorem State.setFill_milk (s : State) (x : FillState) : (s.setFill x).milk = s.milk := rfl
@[simp] theorem State.setFill_air (s : State) (x : FillState) : (s.setFill x).air = s.air := rfl
@[simp] theorem State.setFill_seq (s : State) (x : FillState) : (s.setFill x).seq = s.seq := rfl
@[simp] theorem State.setFill_fill (s : State) (x : FillState) : (s.setFill x).fill = x := rfl
@[simp] theorem State.setFill_coag (s : State) (x : FillState) : (s.setFill x).coag = s.coag := rfl
@[simp] theorem State.setFill_knife (s : State) (x : FillState) : (s.setFill x).knife = s.knife := rfl
@[simp] theorem State.setFill_queue (s : State) (x : FillState) : (s.setFill x).queue = s.queue := rfl
@[simp] theorem State.setFill_press (s : State) (x : FillState) : (s.setFill x).press = s.press := rfl
@[simp] theorem State.setFill_alerts (s : State) (x : FillState) : (s.setFill x).alerts = s.alerts := rfl
@[simp] theorem State.setFill_port (s : State) (x : FillState) : (s.setFill x).port = s.port := rfl
@[simp] theorem State.setFill_store (s : State) (x : FillState) : (s.setFill x).store = s.store := rfl
@[simp] theorem State.setFill_free (s : State) (x : FillState) : (s.setFill x).free = s.free := rfl

@[simp] theorem State.setCoag_pending (s : State) (x : CoagState) : (s.setCoag x).pending = s.pending := rfl
@[simp] theorem State.setCoag_lines (s : State) (x : CoagState) : (s.setCoag x).lines = s.lines := rfl
@[simp] theorem State.setCoag_start (s : State) (x : CoagState) : (s.setCoag x).start = s.start := rfl
@[simp] theorem State.setCoag_config (s : State) (x : CoagState) : (s.setCoag x).config = s.config := rfl
@[simp] theorem State.setCoag_link (s : State) (x : CoagState) : (s.setCoag x).link = s.link := rfl
@[simp] theorem State.setCoag_peers (s : State) (x : CoagState) : (s.setCoag x).peers = s.peers := rfl
@[simp] theorem State.setCoag_milk (s : State) (x : CoagState) : (s.setCoag x).milk = s.milk := rfl
@[simp] theorem State.setCoag_air (s : State) (x : CoagState) : (s.setCoag x).air = s.air := rfl
@[simp] theorem State.setCoag_seq (s : State) (x : CoagState) : (s.setCoag x).seq = s.seq := rfl
@[simp] theorem State.setCoag_fill (s : State) (x : CoagState) : (s.setCoag x).fill = s.fill := rfl
@[simp] theorem State.setCoag_coag (s : State) (x : CoagState) : (s.setCoag x).coag = x := rfl
@[simp] theorem State.setCoag_knife (s : State) (x : CoagState) : (s.setCoag x).knife = s.knife := rfl
@[simp] theorem State.setCoag_queue (s : State) (x : CoagState) : (s.setCoag x).queue = s.queue := rfl
@[simp] theorem State.setCoag_press (s : State) (x : CoagState) : (s.setCoag x).press = s.press := rfl
@[simp] theorem State.setCoag_alerts (s : State) (x : CoagState) : (s.setCoag x).alerts = s.alerts := rfl
@[simp] theorem State.setCoag_port (s : State) (x : CoagState) : (s.setCoag x).port = s.port := rfl
@[simp] theorem State.setCoag_store (s : State) (x : CoagState) : (s.setCoag x).store = s.store := rfl
@[simp] theorem State.setCoag_free (s : State) (x : CoagState) : (s.setCoag x).free = s.free := rfl

@[simp] theorem State.setKnife_pending (s : State) (x : KnifeState) : (s.setKnife x).pending = s.pending := rfl
@[simp] theorem State.setKnife_lines (s : State) (x : KnifeState) : (s.setKnife x).lines = s.lines := rfl
@[simp] theorem State.setKnife_start (s : State) (x : KnifeState) : (s.setKnife x).start = s.start := rfl
@[simp] theorem State.setKnife_config (s : State) (x : KnifeState) : (s.setKnife x).config = s.config := rfl
@[simp] theorem State.setKnife_link (s : State) (x : KnifeState) : (s.setKnife x).link = s.link := rfl
@[simp] theorem State.setKnife_peers (s : State) (x : KnifeState) : (s.setKnife x).peers = s.peers := rfl
@[simp] theorem State.setKnife_milk (s : State) (x : KnifeState) : (s.setKnife x).milk = s.milk := rfl
@[simp] theorem State.setKnife_air (s : State) (x : KnifeState) : (s.setKnife x).air = s.air := rfl
@[simp] theorem State.setKnife_seq (s : State) (x : KnifeState) : (s.setKnife x).seq = s.seq := rfl
@[simp] theorem State.setKnife_fill (s : State) (x : KnifeState) : (s.setKnife x).fill = s.fill := rfl
@[simp] theorem State.setKnife_coag (s : State) (x : KnifeState) : (s.setKnife x).coag = s.coag := rfl
@[simp] theorem State.setKnife_knife (s : State) (x : KnifeState) : (s.setKnife x).knife = x := rfl
@[simp] theorem State.setKnife_queue (s : State) (x : KnifeState) : (s.setKnife x).queue = s.queue := rfl
@[simp] theorem State.setKnife_press (s : State) (x : KnifeState) : (s.setKnife x).press = s.press := rfl
@[simp] theorem State.setKnife_alerts (s : State) (x : KnifeState) : (s.setKnife x).alerts = s.alerts := rfl
@[simp] theorem State.setKnife_port (s : State) (x : KnifeState) : (s.setKnife x).port = s.port := rfl
@[simp] theorem State.setKnife_store (s : State) (x : KnifeState) : (s.setKnife x).store = s.store := rfl
@[simp] theorem State.setKnife_free (s : State) (x : KnifeState) : (s.setKnife x).free = s.free := rfl

@[simp] theorem State.setQueue_pending (s : State) (x : QueueState) : (s.setQueue x).pending = s.pending := rfl
@[simp] theorem State.setQueue_lines (s : State) (x : QueueState) : (s.setQueue x).lines = s.lines := rfl
@[simp] theorem State.setQueue_start (s : State) (x : QueueState) : (s.setQueue x).start = s.start := rfl
@[simp] theorem State.setQueue_config (s : State) (x : QueueState) : (s.setQueue x).config = s.config := rfl
@[simp] theorem State.setQueue_link (s : State) (x : QueueState) : (s.setQueue x).link = s.link := rfl
@[simp] theorem State.setQueue_peers (s : State) (x : QueueState) : (s.setQueue x).peers = s.peers := rfl
@[simp] theorem State.setQueue_milk (s : State) (x : QueueState) : (s.setQueue x).milk = s.milk := rfl
@[simp] theorem State.setQueue_air (s : State) (x : QueueState) : (s.setQueue x).air = s.air := rfl
@[simp] theorem State.setQueue_seq (s : State) (x : QueueState) : (s.setQueue x).seq = s.seq := rfl
@[simp] theorem State.setQueue_fill (s : State) (x : QueueState) : (s.setQueue x).fill = s.fill := rfl
@[simp] theorem State.setQueue_coag (s : State) (x : QueueState) : (s.setQueue x).coag = s.coag := rfl
@[simp] theorem State.setQueue_knife (s : State) (x : QueueState) : (s.setQueue x).knife = s.knife := rfl
@[simp] theorem State.setQueue_queue (s : State) (x : QueueState) : (s.setQueue x).queue = x := rfl
@[simp] theorem State.setQueue_press (s : State) (x : QueueState) : (s.setQueue x).press = s.press := rfl
@[simp] theorem State.setQueue_alerts (s : State) (x : QueueState) : (s.setQueue x).alerts = s.alerts := rfl
@[simp] theorem State.setQueue_port (s : State) (x : QueueState) : (s.setQueue x).port = s.port := rfl
@[simp] theorem State.setQueue_store (s : State) (x : QueueState) : (s.setQueue x).store = s.store := rfl
@[simp] theorem State.setQueue_free (s : State) (x : QueueState) : (s.setQueue x).free = s.free := rfl

@[simp] theorem State.setPress_pending (s : State) (x : PressState) : (s.setPress x).pending = s.pending := rfl
@[simp] theorem State.setPress_lines (s : State) (x : PressState) : (s.setPress x).lines = s.lines := rfl
@[simp] theorem State.setPress_start (s : State) (x : PressState) : (s.setPress x).start = s.start := rfl
@[simp] theorem State.setPress_config (s : State) (x : PressState) : (s.setPress x).config = s.config := rfl
@[simp] theorem State.setPress_link (s : State) (x : PressState) : (s.setPress x).link = s.link := rfl
@[simp] theorem State.setPress_peers (s : State) (x : PressState) : (s.setPress x).peers = s.peers := rfl
@[simp] theorem State.setPress_milk (s : State) (x : PressState) : (s.setPress x).milk = s.milk := rfl
@[simp] theorem State.setPress_air (s : State) (x : PressState) : (s.setPress x).air = s.air := rfl
@[simp] theorem State.setPress_seq (s : State) (x : PressState) : (s.setPress x).seq = s.seq := rfl
@[simp] theorem State.setPress_fill (s : State) (x : PressState) : (s.setPress x).fill = s.fill := rfl
@[simp] theorem State.setPress_coag (s : State) (x : PressState) : (s.setPress x).coag = s.coag := rfl
@[simp] theorem State.setPress_knife (s : State) (x : PressState) : (s.setPress x).knife = s.knife := rfl
@[simp] theorem State.setPress_queue (s : State) (x : PressState) : (s.setPress x).queue = s.queue := rfl
@[simp] theorem State.setPress_press (s : State) (x : PressState) : (s.setPress x).press = x := rfl
@[simp] theorem State.setPress_alerts (s : State) (x : PressState) : (s.setPress x).alerts = s.alerts := rfl
@[simp] theorem State.setPress_port (s : State) (x : PressState) : (s.setPress x).port = s.port := rfl
@[simp] theorem State.setPress_store (s : State) (x : PressState) : (s.setPress x).store = s.store := rfl
@[simp] theorem State.setPress_free (s : State) (x : PressState) : (s.setPress x).free = s.free := rfl

@[simp] theorem State.setAlerts_pending (s : State) (x : AlertState) : (s.setAlerts x).pending = s.pending := rfl
@[simp] theorem State.setAlerts_lines (s : State) (x : AlertState) : (s.setAlerts x).lines = s.lines := rfl
@[simp] theorem State.setAlerts_start (s : State) (x : AlertState) : (s.setAlerts x).start = s.start := rfl
@[simp] theorem State.setAlerts_config (s : State) (x : AlertState) : (s.setAlerts x).config = s.config := rfl
@[simp] theorem State.setAlerts_link (s : State) (x : AlertState) : (s.setAlerts x).link = s.link := rfl
@[simp] theorem State.setAlerts_peers (s : State) (x : AlertState) : (s.setAlerts x).peers = s.peers := rfl
@[simp] theorem State.setAlerts_milk (s : State) (x : AlertState) : (s.setAlerts x).milk = s.milk := rfl
@[simp] theorem State.setAlerts_air (s : State) (x : AlertState) : (s.setAlerts x).air = s.air := rfl
@[simp] theorem State.setAlerts_seq (s : State) (x : AlertState) : (s.setAlerts x).seq = s.seq := rfl
@[simp] theorem State.setAlerts_fill (s : State) (x : AlertState) : (s.setAlerts x).fill = s.fill := rfl
@[simp] theorem State.setAlerts_coag (s : State) (x : AlertState) : (s.setAlerts x).coag = s.coag := rfl
@[simp] theorem State.setAlerts_knife (s : State) (x : AlertState) : (s.setAlerts x).knife = s.knife := rfl
@[simp] theorem State.setAlerts_queue (s : State) (x : AlertState) : (s.setAlerts x).queue = s.queue := rfl
@[simp] theorem State.setAlerts_press (s : State) (x : AlertState) : (s.setAlerts x).press = s.press := rfl
@[simp] theorem State.setAlerts_alerts (s : State) (x : AlertState) : (s.setAlerts x).alerts = x := rfl
@[simp] theorem State.setAlerts_port (s : State) (x : AlertState) : (s.setAlerts x).port = s.port := rfl
@[simp] theorem State.setAlerts_store (s : State) (x : AlertState) : (s.setAlerts x).store = s.store := rfl
@[simp] theorem State.setAlerts_free (s : State) (x : AlertState) : (s.setAlerts x).free = s.free := rfl

@[simp] theorem State.setPort_pending (s : State) (x : PortState) : (s.setPort x).pending = s.pending := rfl
@[simp] theorem State.setPort_lines (s : State) (x : PortState) : (s.setPort x).lines = s.lines := rfl
@[simp] theorem State.setPort_start (s : State) (x : PortState) : (s.setPort x).start = s.start := rfl
@[simp] theorem State.setPort_config (s : State) (x : PortState) : (s.setPort x).config = s.config := rfl
@[simp] theorem State.setPort_link (s : State) (x : PortState) : (s.setPort x).link = s.link := rfl
@[simp] theorem State.setPort_peers (s : State) (x : PortState) : (s.setPort x).peers = s.peers := rfl
@[simp] theorem State.setPort_milk (s : State) (x : PortState) : (s.setPort x).milk = s.milk := rfl
@[simp] theorem State.setPort_air (s : State) (x : PortState) : (s.setPort x).air = s.air := rfl
@[simp] theorem State.setPort_seq (s : State) (x : PortState) : (s.setPort x).seq = s.seq := rfl
@[simp] theorem State.setPort_fill (s : State) (x : PortState) : (s.setPort x).fill = s.fill := rfl
@[simp] theorem State.setPort_coag (s : State) (x : PortState) : (s.setPort x).coag = s.coag := rfl
@[simp] theorem State.setPort_knife (s : State) (x : PortState) : (s.setPort x).knife = s.knife := rfl
@[simp] theorem State.setPort_queue (s : State) (x : PortState) : (s.setPort x).queue = s.queue := rfl
@[simp] theorem State.setPort_press (s : State) (x : PortState) : (s.setPort x).press = s.press := rfl
@[simp] theorem State.setPort_alerts (s : State) (x : PortState) : (s.setPort x).alerts = s.alerts := rfl
@[simp] theorem State.setPort_port (s : State) (x : PortState) : (s.setPort x).port = x := rfl
@[simp] theorem State.setPort_store (s : State) (x : PortState) : (s.setPort x).store = s.store := rfl
@[simp] theorem State.setPort_free (s : State) (x : PortState) : (s.setPort x).free = s.free := rfl

@[simp] theorem State.setStore_pending (s : State) (x : Store) : (s.setStore x).pending = s.pending := rfl
@[simp] theorem State.setStore_lines (s : State) (x : Store) : (s.setStore x).lines = s.lines := rfl
@[simp] theorem State.setStore_start (s : State) (x : Store) : (s.setStore x).start = s.start := rfl
@[simp] theorem State.setStore_config (s : State) (x : Store) : (s.setStore x).config = s.config := rfl
@[simp] theorem State.setStore_link (s : State) (x : Store) : (s.setStore x).link = s.link := rfl
@[simp] theorem State.setStore_peers (s : State) (x : Store) : (s.setStore x).peers = s.peers := rfl
@[simp] theorem State.setStore_milk (s : State) (x : Store) : (s.setStore x).milk = s.milk := rfl
@[simp] theorem State.setStore_air (s : State) (x : Store) : (s.setStore x).air = s.air := rfl
@[simp] theorem State.setStore_seq (s : State) (x : Store) : (s.setStore x).seq = s.seq := rfl
@[simp] theorem State.setStore_fill (s : State) (x : Store) : (s.setStore x).fill = s.fill := rfl
@[simp] theorem State.setStore_coag (s : State) (x : Store) : (s.setStore x).coag = s.coag := rfl
@[simp] theorem State.setStore_knife (s : State) (x : Store) : (s.setStore x).knife = s.knife := rfl
@[simp] theorem State.setStore_queue (s : State) (x : Store) : (s.setStore x).queue = s.queue := rfl
@[simp] theorem State.setStore_press (s : State) (x : Store) : (s.setStore x).press = s.press := rfl
@[simp] theorem State.setStore_alerts (s : State) (x : Store) : (s.setStore x).alerts = s.alerts := rfl
@[simp] theorem State.setStore_port (s : State) (x : Store) : (s.setStore x).port = s.port := rfl
@[simp] theorem State.setStore_store (s : State) (x : Store) : (s.setStore x).store = x := rfl
@[simp] theorem State.setStore_free (s : State) (x : Store) : (s.setStore x).free = s.free := rfl

@[simp] theorem State.setFree_pending (s : State) (x : Nat) : (s.setFree x).pending = s.pending := rfl
@[simp] theorem State.setFree_lines (s : State) (x : Nat) : (s.setFree x).lines = s.lines := rfl
@[simp] theorem State.setFree_start (s : State) (x : Nat) : (s.setFree x).start = s.start := rfl
@[simp] theorem State.setFree_config (s : State) (x : Nat) : (s.setFree x).config = s.config := rfl
@[simp] theorem State.setFree_link (s : State) (x : Nat) : (s.setFree x).link = s.link := rfl
@[simp] theorem State.setFree_peers (s : State) (x : Nat) : (s.setFree x).peers = s.peers := rfl
@[simp] theorem State.setFree_milk (s : State) (x : Nat) : (s.setFree x).milk = s.milk := rfl
@[simp] theorem State.setFree_air (s : State) (x : Nat) : (s.setFree x).air = s.air := rfl
@[simp] theorem State.setFree_seq (s : State) (x : Nat) : (s.setFree x).seq = s.seq := rfl
@[simp] theorem State.setFree_fill (s : State) (x : Nat) : (s.setFree x).fill = s.fill := rfl
@[simp] theorem State.setFree_coag (s : State) (x : Nat) : (s.setFree x).coag = s.coag := rfl
@[simp] theorem State.setFree_knife (s : State) (x : Nat) : (s.setFree x).knife = s.knife := rfl
@[simp] theorem State.setFree_queue (s : State) (x : Nat) : (s.setFree x).queue = s.queue := rfl
@[simp] theorem State.setFree_press (s : State) (x : Nat) : (s.setFree x).press = s.press := rfl
@[simp] theorem State.setFree_alerts (s : State) (x : Nat) : (s.setFree x).alerts = s.alerts := rfl
@[simp] theorem State.setFree_port (s : State) (x : Nat) : (s.setFree x).port = s.port := rfl
@[simp] theorem State.setFree_store (s : State) (x : Nat) : (s.setFree x).store = s.store := rfl
@[simp] theorem State.setFree_free (s : State) (x : Nat) : (s.setFree x).free = x := rfl

/-! ### Pools -/

@[simp] theorem State.pool_milk (s : State) : s.pool .milk = s.milk := rfl

@[simp] theorem State.pool_air (s : State) : s.pool .air = s.air := rfl

@[simp] theorem State.setPool_milk (s : State) (x : PoolState) : s.setPool .milk x = s.setMilk x := rfl

@[simp] theorem State.setPool_air (s : State) (x : PoolState) : s.setPool .air x = s.setAir x := rfl

@[simp] theorem State.setPool_pool (s : State) (p : Pool) (x : PoolState) : (s.setPool p x).pool p = x := by
  cases p <;> rfl

/-- Putting one pool's state leaves the other pool's. -/
theorem State.setPool_pool_of_ne (s : State) (p q : Pool) (x : PoolState) (h : q ≠ p) :
    (s.setPool p x).pool q = s.pool q := by
  cases p <;> cases q <;> first | rfl | exact absurd rfl h

@[simp] theorem State.setPool_pending (s : State) (p : Pool) (x : PoolState) : (s.setPool p x).pending = s.pending := by
  cases p <;> rfl

@[simp] theorem State.setPool_lines (s : State) (p : Pool) (x : PoolState) : (s.setPool p x).lines = s.lines := by
  cases p <;> rfl

@[simp] theorem State.setPool_start (s : State) (p : Pool) (x : PoolState) : (s.setPool p x).start = s.start := by
  cases p <;> rfl

@[simp] theorem State.setPool_config (s : State) (p : Pool) (x : PoolState) : (s.setPool p x).config = s.config := by
  cases p <;> rfl

@[simp] theorem State.setPool_link (s : State) (p : Pool) (x : PoolState) : (s.setPool p x).link = s.link := by
  cases p <;> rfl

@[simp] theorem State.setPool_peers (s : State) (p : Pool) (x : PoolState) : (s.setPool p x).peers = s.peers := by
  cases p <;> rfl

@[simp] theorem State.setPool_seq (s : State) (p : Pool) (x : PoolState) : (s.setPool p x).seq = s.seq := by
  cases p <;> rfl

@[simp] theorem State.setPool_fill (s : State) (p : Pool) (x : PoolState) : (s.setPool p x).fill = s.fill := by
  cases p <;> rfl

@[simp] theorem State.setPool_coag (s : State) (p : Pool) (x : PoolState) : (s.setPool p x).coag = s.coag := by
  cases p <;> rfl

@[simp] theorem State.setPool_knife (s : State) (p : Pool) (x : PoolState) : (s.setPool p x).knife = s.knife := by
  cases p <;> rfl

@[simp] theorem State.setPool_queue (s : State) (p : Pool) (x : PoolState) : (s.setPool p x).queue = s.queue := by
  cases p <;> rfl

@[simp] theorem State.setPool_press (s : State) (p : Pool) (x : PoolState) : (s.setPool p x).press = s.press := by
  cases p <;> rfl

@[simp] theorem State.setPool_alerts (s : State) (p : Pool) (x : PoolState) : (s.setPool p x).alerts = s.alerts := by
  cases p <;> rfl

@[simp] theorem State.setPool_port (s : State) (p : Pool) (x : PoolState) : (s.setPool p x).port = s.port := by
  cases p <;> rfl

@[simp] theorem State.setPool_store (s : State) (p : Pool) (x : PoolState) : (s.setPool p x).store = s.store := by
  cases p <;> rfl

@[simp] theorem State.setPool_free (s : State) (p : Pool) (x : PoolState) : (s.setPool p x).free = s.free := by
  cases p <;> rfl

/-! ### Heads -/

@[simp] theorem State.setHead_head (s : State) (h : HeadNo) (x : Head) : (s.setHead h x).head h = x := by
  simp only [State.setHead, State.head, State.setPress_press, Four.get, Four.set]
  split <;> simp_all <;> split <;> simp_all <;> split <;> simp_all

@[simp] theorem State.setHead_pending (s : State) (h : HeadNo) (x : Head) : (s.setHead h x).pending = s.pending := rfl

@[simp] theorem State.setHead_lines (s : State) (h : HeadNo) (x : Head) : (s.setHead h x).lines = s.lines := rfl

@[simp] theorem State.setHead_start (s : State) (h : HeadNo) (x : Head) : (s.setHead h x).start = s.start := rfl

@[simp] theorem State.setHead_config (s : State) (h : HeadNo) (x : Head) : (s.setHead h x).config = s.config := rfl

@[simp] theorem State.setHead_link (s : State) (h : HeadNo) (x : Head) : (s.setHead h x).link = s.link := rfl

@[simp] theorem State.setHead_peers (s : State) (h : HeadNo) (x : Head) : (s.setHead h x).peers = s.peers := rfl

@[simp] theorem State.setHead_milk (s : State) (h : HeadNo) (x : Head) : (s.setHead h x).milk = s.milk := rfl

@[simp] theorem State.setHead_air (s : State) (h : HeadNo) (x : Head) : (s.setHead h x).air = s.air := rfl

@[simp] theorem State.setHead_seq (s : State) (h : HeadNo) (x : Head) : (s.setHead h x).seq = s.seq := rfl

@[simp] theorem State.setHead_fill (s : State) (h : HeadNo) (x : Head) : (s.setHead h x).fill = s.fill := rfl

@[simp] theorem State.setHead_coag (s : State) (h : HeadNo) (x : Head) : (s.setHead h x).coag = s.coag := rfl

@[simp] theorem State.setHead_knife (s : State) (h : HeadNo) (x : Head) : (s.setHead h x).knife = s.knife := rfl

@[simp] theorem State.setHead_queue (s : State) (h : HeadNo) (x : Head) : (s.setHead h x).queue = s.queue := rfl

@[simp] theorem State.setHead_alerts (s : State) (h : HeadNo) (x : Head) : (s.setHead h x).alerts = s.alerts := rfl

@[simp] theorem State.setHead_port (s : State) (h : HeadNo) (x : Head) : (s.setHead h x).port = s.port := rfl

@[simp] theorem State.setHead_store (s : State) (h : HeadNo) (x : Head) : (s.setHead h x).store = s.store := rfl

@[simp] theorem State.setHead_free (s : State) (h : HeadNo) (x : Head) : (s.setHead h x).free = s.free := rfl

end Sys2Proof.Machine
end

