-- ==== Sys2Proof/Laws/Frames.lean ====
section
/-! SUPPORT. What each shared operation leaves alone: one lemma for each operation, naming every block of State that it
does not touch. -/

set_option Elab.async false

namespace Sys2Proof.Machine

@[simp] theorem setHead_frame (s : State) (h : HeadNo) (x : Head) :
    (s.setHead h x).pending = s.pending ∧ (s.setHead h x).lines = s.lines ∧ (s.setHead h x).start = s.start ∧
      (s.setHead h x).config = s.config ∧ (s.setHead h x).link = s.link ∧ (s.setHead h x).peers = s.peers ∧
      (s.setHead h x).milk = s.milk ∧ (s.setHead h x).air = s.air ∧ (s.setHead h x).seq = s.seq ∧
      (s.setHead h x).fill = s.fill ∧ (s.setHead h x).coag = s.coag ∧ (s.setHead h x).knife = s.knife ∧
      (s.setHead h x).queue = s.queue ∧ (s.setHead h x).alerts = s.alerts ∧ (s.setHead h x).port = s.port ∧
      (s.setHead h x).store = s.store ∧ (s.setHead h x).free = s.free := ⟨rfl, rfl, rfl, rfl, rfl, rfl, rfl, rfl, rfl, rfl, rfl, rfl, rfl, rfl, rfl, rfl, rfl⟩

@[simp] theorem noteStatus_frame (b s : State) :
    (noteStatus b s).pending = s.pending ∧ (noteStatus b s).lines = s.lines ∧ (noteStatus b s).start = s.start ∧
      (noteStatus b s).config = s.config ∧ (noteStatus b s).peers = s.peers ∧ (noteStatus b s).milk = s.milk ∧
      (noteStatus b s).air = s.air ∧ (noteStatus b s).seq = s.seq ∧ (noteStatus b s).fill = s.fill ∧
      (noteStatus b s).coag = s.coag ∧ (noteStatus b s).knife = s.knife ∧ (noteStatus b s).queue = s.queue ∧
      (noteStatus b s).press = s.press ∧ (noteStatus b s).alerts = s.alerts ∧ (noteStatus b s).port = s.port ∧
      (noteStatus b s).store = s.store ∧ (noteStatus b s).free = s.free := by
  simp only [noteStatus]
  (repeat' split) <;> simp

@[simp] theorem offer_frame (s : State) (f : TxFrame) :
    (offer s f).pending = s.pending ∧ (offer s f).lines = s.lines ∧ (offer s f).start = s.start ∧
      (offer s f).config = s.config ∧ (offer s f).peers = s.peers ∧ (offer s f).milk = s.milk ∧
      (offer s f).air = s.air ∧ (offer s f).seq = s.seq ∧ (offer s f).fill = s.fill ∧ (offer s f).coag = s.coag ∧
      (offer s f).knife = s.knife ∧ (offer s f).queue = s.queue ∧ (offer s f).press = s.press ∧
      (offer s f).alerts = s.alerts ∧ (offer s f).port = s.port ∧ (offer s f).store = s.store ∧
      (offer s f).free = s.free := by
  simp only [offer]
  (repeat' split) <;> simp

@[simp] theorem reply_frame (s : State) (a b t : Byte) (v : Verdict) :
    (reply s a b t v).pending = s.pending ∧ (reply s a b t v).lines = s.lines ∧ (reply s a b t v).start = s.start ∧
      (reply s a b t v).config = s.config ∧ (reply s a b t v).peers = s.peers ∧ (reply s a b t v).milk = s.milk ∧
      (reply s a b t v).air = s.air ∧ (reply s a b t v).seq = s.seq ∧ (reply s a b t v).fill = s.fill ∧
      (reply s a b t v).coag = s.coag ∧ (reply s a b t v).knife = s.knife ∧ (reply s a b t v).queue = s.queue ∧
      (reply s a b t v).press = s.press ∧ (reply s a b t v).alerts = s.alerts ∧ (reply s a b t v).port = s.port ∧
      (reply s a b t v).store = s.store ∧ (reply s a b t v).free = s.free := by
  simp only [reply]
  (repeat' split) <;> simp

@[simp] theorem setGrant_milk_frame (g : Nat) (s : State) :
    (setGrant .milk g s).pending = s.pending ∧ (setGrant .milk g s).lines = s.lines ∧
      (setGrant .milk g s).start = s.start ∧ (setGrant .milk g s).config = s.config ∧
      (setGrant .milk g s).link = s.link ∧ (setGrant .milk g s).peers = s.peers ∧
      (setGrant .milk g s).air = s.air ∧ (setGrant .milk g s).seq = s.seq ∧ (setGrant .milk g s).coag = s.coag ∧
      (setGrant .milk g s).knife = s.knife ∧ (setGrant .milk g s).queue = s.queue ∧
      (setGrant .milk g s).press = s.press ∧ (setGrant .milk g s).alerts = s.alerts ∧
      (setGrant .milk g s).port = s.port ∧ (setGrant .milk g s).store = s.store ∧ (setGrant .milk g s).free = s.free := by
  unfold setGrant
  by_cases h : s.milk.grant = g <;> simp [State.pool, State.setPool, h]

@[simp] theorem setGrant_air_frame (g : Nat) (s : State) :
    (setGrant .air g s).pending = s.pending ∧ (setGrant .air g s).lines = s.lines ∧
      (setGrant .air g s).start = s.start ∧ (setGrant .air g s).config = s.config ∧
      (setGrant .air g s).link = s.link ∧ (setGrant .air g s).peers = s.peers ∧ (setGrant .air g s).milk = s.milk ∧
      (setGrant .air g s).seq = s.seq ∧ (setGrant .air g s).fill = s.fill ∧ (setGrant .air g s).coag = s.coag ∧
      (setGrant .air g s).knife = s.knife ∧ (setGrant .air g s).queue = s.queue ∧
      (setGrant .air g s).alerts = s.alerts ∧ (setGrant .air g s).port = s.port ∧
      (setGrant .air g s).store = s.store ∧ (setGrant .air g s).free = s.free := by
  unfold setGrant
  by_cases h : s.air.grant = g <;> simp [State.pool, State.setPool, h]

@[simp] theorem presentClaim_milk_frame (l r f : Nat) (s : State) :
    (presentClaim .milk l r f s).pending = s.pending ∧ (presentClaim .milk l r f s).lines = s.lines ∧
      (presentClaim .milk l r f s).start = s.start ∧ (presentClaim .milk l r f s).config = s.config ∧
      (presentClaim .milk l r f s).link = s.link ∧ (presentClaim .milk l r f s).peers = s.peers ∧
      (presentClaim .milk l r f s).air = s.air ∧ (presentClaim .milk l r f s).seq = s.seq ∧
      (presentClaim .milk l r f s).coag = s.coag ∧ (presentClaim .milk l r f s).knife = s.knife ∧
      (presentClaim .milk l r f s).queue = s.queue ∧ (presentClaim .milk l r f s).press = s.press ∧
      (presentClaim .milk l r f s).alerts = s.alerts ∧ (presentClaim .milk l r f s).port = s.port ∧
      (presentClaim .milk l r f s).store = s.store ∧ (presentClaim .milk l r f s).free = s.free := by
  simp only [presentClaim, State.pool, State.setPool]
  (repeat' split) <;> simp

@[simp] theorem presentClaim_air_frame (l r f : Nat) (s : State) :
    (presentClaim .air l r f s).pending = s.pending ∧ (presentClaim .air l r f s).lines = s.lines ∧
      (presentClaim .air l r f s).start = s.start ∧ (presentClaim .air l r f s).config = s.config ∧
      (presentClaim .air l r f s).link = s.link ∧ (presentClaim .air l r f s).peers = s.peers ∧
      (presentClaim .air l r f s).milk = s.milk ∧ (presentClaim .air l r f s).seq = s.seq ∧
      (presentClaim .air l r f s).fill = s.fill ∧ (presentClaim .air l r f s).coag = s.coag ∧
      (presentClaim .air l r f s).knife = s.knife ∧ (presentClaim .air l r f s).queue = s.queue ∧
      (presentClaim .air l r f s).alerts = s.alerts ∧ (presentClaim .air l r f s).port = s.port ∧
      (presentClaim .air l r f s).store = s.store ∧ (presentClaim .air l r f s).free = s.free := by
  simp only [presentClaim, State.pool, State.setPool]
  (repeat' split) <;> simp

@[simp] theorem dropClaim_milk_frame (s : State) :
    (dropClaim .milk s).pending = s.pending ∧ (dropClaim .milk s).lines = s.lines ∧
      (dropClaim .milk s).start = s.start ∧ (dropClaim .milk s).config = s.config ∧
      (dropClaim .milk s).link = s.link ∧ (dropClaim .milk s).peers = s.peers ∧ (dropClaim .milk s).air = s.air ∧
      (dropClaim .milk s).seq = s.seq ∧ (dropClaim .milk s).coag = s.coag ∧ (dropClaim .milk s).knife = s.knife ∧
      (dropClaim .milk s).queue = s.queue ∧ (dropClaim .milk s).press = s.press ∧
      (dropClaim .milk s).alerts = s.alerts ∧ (dropClaim .milk s).port = s.port ∧
      (dropClaim .milk s).store = s.store ∧ (dropClaim .milk s).free = s.free := by
  simp only [dropClaim, State.pool, State.setPool]
  (repeat' split) <;> simp

@[simp] theorem dropClaim_air_frame (s : State) :
    (dropClaim .air s).pending = s.pending ∧ (dropClaim .air s).lines = s.lines ∧
      (dropClaim .air s).start = s.start ∧ (dropClaim .air s).config = s.config ∧
      (dropClaim .air s).link = s.link ∧ (dropClaim .air s).peers = s.peers ∧ (dropClaim .air s).milk = s.milk ∧
      (dropClaim .air s).seq = s.seq ∧ (dropClaim .air s).fill = s.fill ∧ (dropClaim .air s).coag = s.coag ∧
      (dropClaim .air s).knife = s.knife ∧ (dropClaim .air s).queue = s.queue ∧
      (dropClaim .air s).alerts = s.alerts ∧ (dropClaim .air s).port = s.port ∧
      (dropClaim .air s).store = s.store ∧ (dropClaim .air s).free = s.free := by
  simp only [dropClaim, State.pool, State.setPool]
  (repeat' split) <;> simp

@[simp] theorem reckon_milk_frame (c : RunConfig) (s : State) :
    (reckon c .milk s).pending = s.pending ∧ (reckon c .milk s).lines = s.lines ∧
      (reckon c .milk s).start = s.start ∧ (reckon c .milk s).config = s.config ∧
      (reckon c .milk s).link = s.link ∧ (reckon c .milk s).peers = s.peers ∧ (reckon c .milk s).air = s.air ∧
      (reckon c .milk s).seq = s.seq ∧ (reckon c .milk s).coag = s.coag ∧ (reckon c .milk s).knife = s.knife ∧
      (reckon c .milk s).queue = s.queue ∧ (reckon c .milk s).press = s.press ∧
      (reckon c .milk s).alerts = s.alerts ∧ (reckon c .milk s).port = s.port ∧
      (reckon c .milk s).store = s.store ∧ (reckon c .milk s).free = s.free := by
  simp only [reckon, State.pool, State.setPool]
  (repeat' split) <;> simp

@[simp] theorem reckon_air_frame (c : RunConfig) (s : State) :
    (reckon c .air s).pending = s.pending ∧ (reckon c .air s).lines = s.lines ∧ (reckon c .air s).start = s.start ∧
      (reckon c .air s).config = s.config ∧ (reckon c .air s).link = s.link ∧ (reckon c .air s).peers = s.peers ∧
      (reckon c .air s).milk = s.milk ∧ (reckon c .air s).seq = s.seq ∧ (reckon c .air s).fill = s.fill ∧
      (reckon c .air s).coag = s.coag ∧ (reckon c .air s).knife = s.knife ∧ (reckon c .air s).queue = s.queue ∧
      (reckon c .air s).alerts = s.alerts ∧ (reckon c .air s).port = s.port ∧ (reckon c .air s).store = s.store ∧
      (reckon c .air s).free = s.free := by
  simp only [reckon, State.pool, State.setPool]
  (repeat' split) <;> simp

@[simp] theorem reckonBoth_frame (c : RunConfig) (s : State) :
    (reckonBoth c s).pending = s.pending ∧ (reckonBoth c s).lines = s.lines ∧ (reckonBoth c s).start = s.start ∧
      (reckonBoth c s).config = s.config ∧ (reckonBoth c s).link = s.link ∧ (reckonBoth c s).peers = s.peers ∧
      (reckonBoth c s).seq = s.seq ∧ (reckonBoth c s).coag = s.coag ∧ (reckonBoth c s).knife = s.knife ∧
      (reckonBoth c s).queue = s.queue ∧ (reckonBoth c s).alerts = s.alerts ∧ (reckonBoth c s).port = s.port ∧
      (reckonBoth c s).store = s.store ∧ (reckonBoth c s).free = s.free := by
  simp only [reckonBoth]
  (repeat' split) <;> simp

@[simp] theorem buildStatus_frame (c : RunConfig) (s : State) :
    (buildStatus c s).pending = s.pending ∧ (buildStatus c s).lines = s.lines ∧ (buildStatus c s).start = s.start ∧
      (buildStatus c s).config = s.config ∧ (buildStatus c s).peers = s.peers ∧ (buildStatus c s).seq = s.seq ∧
      (buildStatus c s).coag = s.coag ∧ (buildStatus c s).knife = s.knife ∧ (buildStatus c s).queue = s.queue ∧
      (buildStatus c s).alerts = s.alerts ∧ (buildStatus c s).port = s.port ∧ (buildStatus c s).store = s.store ∧
      (buildStatus c s).free = s.free := by
  simp only [buildStatus]
  (repeat' split) <;> simp

@[simp] theorem advanceWaited_milk_frame (s : State) :
    (advanceWaited .milk s).pending = s.pending ∧ (advanceWaited .milk s).lines = s.lines ∧
      (advanceWaited .milk s).start = s.start ∧ (advanceWaited .milk s).config = s.config ∧
      (advanceWaited .milk s).link = s.link ∧ (advanceWaited .milk s).peers = s.peers ∧
      (advanceWaited .milk s).air = s.air ∧ (advanceWaited .milk s).seq = s.seq ∧
      (advanceWaited .milk s).fill = s.fill ∧ (advanceWaited .milk s).coag = s.coag ∧
      (advanceWaited .milk s).knife = s.knife ∧ (advanceWaited .milk s).queue = s.queue ∧
      (advanceWaited .milk s).press = s.press ∧ (advanceWaited .milk s).alerts = s.alerts ∧
      (advanceWaited .milk s).port = s.port ∧ (advanceWaited .milk s).store = s.store ∧
      (advanceWaited .milk s).free = s.free := by
  simp only [advanceWaited, State.pool, State.setPool]
  (repeat' split) <;> simp

@[simp] theorem advanceWaited_air_frame (s : State) :
    (advanceWaited .air s).pending = s.pending ∧ (advanceWaited .air s).lines = s.lines ∧
      (advanceWaited .air s).start = s.start ∧ (advanceWaited .air s).config = s.config ∧
      (advanceWaited .air s).link = s.link ∧ (advanceWaited .air s).peers = s.peers ∧
      (advanceWaited .air s).milk = s.milk ∧ (advanceWaited .air s).seq = s.seq ∧
      (advanceWaited .air s).fill = s.fill ∧ (advanceWaited .air s).coag = s.coag ∧
      (advanceWaited .air s).knife = s.knife ∧ (advanceWaited .air s).queue = s.queue ∧
      (advanceWaited .air s).press = s.press ∧ (advanceWaited .air s).alerts = s.alerts ∧
      (advanceWaited .air s).port = s.port ∧ (advanceWaited .air s).store = s.store ∧
      (advanceWaited .air s).free = s.free := by
  simp only [advanceWaited, State.pool, State.setPool]
  (repeat' split) <;> simp

@[simp] theorem endDegraded_milk_frame (s : State) :
    (endDegraded .milk s).pending = s.pending ∧ (endDegraded .milk s).lines = s.lines ∧
      (endDegraded .milk s).start = s.start ∧ (endDegraded .milk s).config = s.config ∧
      (endDegraded .milk s).link = s.link ∧ (endDegraded .milk s).peers = s.peers ∧
      (endDegraded .milk s).air = s.air ∧ (endDegraded .milk s).seq = s.seq ∧ (endDegraded .milk s).fill = s.fill ∧
      (endDegraded .milk s).coag = s.coag ∧ (endDegraded .milk s).knife = s.knife ∧
      (endDegraded .milk s).queue = s.queue ∧ (endDegraded .milk s).press = s.press ∧
      (endDegraded .milk s).alerts = s.alerts ∧ (endDegraded .milk s).port = s.port ∧
      (endDegraded .milk s).store = s.store ∧ (endDegraded .milk s).free = s.free := by
  unfold endDegraded
  split <;> simp [State.pool, State.setPool]

@[simp] theorem endDegraded_air_frame (s : State) :
    (endDegraded .air s).pending = s.pending ∧ (endDegraded .air s).lines = s.lines ∧
      (endDegraded .air s).start = s.start ∧ (endDegraded .air s).config = s.config ∧
      (endDegraded .air s).link = s.link ∧ (endDegraded .air s).peers = s.peers ∧
      (endDegraded .air s).milk = s.milk ∧ (endDegraded .air s).seq = s.seq ∧ (endDegraded .air s).fill = s.fill ∧
      (endDegraded .air s).coag = s.coag ∧ (endDegraded .air s).knife = s.knife ∧
      (endDegraded .air s).queue = s.queue ∧ (endDegraded .air s).press = s.press ∧
      (endDegraded .air s).alerts = s.alerts ∧ (endDegraded .air s).port = s.port ∧
      (endDegraded .air s).store = s.store ∧ (endDegraded .air s).free = s.free := by
  unfold endDegraded
  split <;> simp [State.pool, State.setPool]

@[simp] theorem withdrawJobs_frame (m : JobKind → Bool) (s : State) :
    (withdrawJobs m s).pending = s.pending ∧ (withdrawJobs m s).lines = s.lines ∧
      (withdrawJobs m s).start = s.start ∧ (withdrawJobs m s).config = s.config ∧
      (withdrawJobs m s).link = s.link ∧ (withdrawJobs m s).peers = s.peers ∧ (withdrawJobs m s).milk = s.milk ∧
      (withdrawJobs m s).air = s.air ∧ (withdrawJobs m s).seq = s.seq ∧ (withdrawJobs m s).fill = s.fill ∧
      (withdrawJobs m s).coag = s.coag ∧ (withdrawJobs m s).queue = s.queue ∧ (withdrawJobs m s).press = s.press ∧
      (withdrawJobs m s).alerts = s.alerts ∧ (withdrawJobs m s).port = s.port ∧
      (withdrawJobs m s).store = s.store ∧ (withdrawJobs m s).free = s.free := by
  simp only [withdrawJobs]
  (repeat' split) <;> simp

@[simp] theorem holdFilling_frame (s : State) :
    (holdFilling s).pending = s.pending ∧ (holdFilling s).lines = s.lines ∧ (holdFilling s).start = s.start ∧
      (holdFilling s).config = s.config ∧ (holdFilling s).link = s.link ∧ (holdFilling s).peers = s.peers ∧
      (holdFilling s).air = s.air ∧ (holdFilling s).seq = s.seq ∧ (holdFilling s).coag = s.coag ∧
      (holdFilling s).queue = s.queue ∧ (holdFilling s).press = s.press ∧ (holdFilling s).alerts = s.alerts ∧
      (holdFilling s).port = s.port ∧ (holdFilling s).store = s.store ∧ (holdFilling s).free = s.free := by
  simp only [holdFilling]
  (repeat' split) <;> simp

@[simp] theorem applyHold_frame (s : State) :
    (applyHold s).pending = s.pending ∧ (applyHold s).lines = s.lines ∧ (applyHold s).start = s.start ∧
      (applyHold s).config = s.config ∧ (applyHold s).link = s.link ∧ (applyHold s).peers = s.peers ∧
      (applyHold s).air = s.air ∧ (applyHold s).queue = s.queue ∧ (applyHold s).press = s.press ∧
      (applyHold s).alerts = s.alerts ∧ (applyHold s).port = s.port ∧ (applyHold s).store = s.store ∧
      (applyHold s).free = s.free := by
  simp only [applyHold]
  (repeat' split) <;> simp

@[simp] theorem changeRecord_frame (f : BatchRecord → BatchRecord) (s : State) :
    (changeRecord f s).pending = s.pending ∧ (changeRecord f s).lines = s.lines ∧
      (changeRecord f s).start = s.start ∧ (changeRecord f s).config = s.config ∧
      (changeRecord f s).link = s.link ∧ (changeRecord f s).peers = s.peers ∧ (changeRecord f s).milk = s.milk ∧
      (changeRecord f s).air = s.air ∧ (changeRecord f s).fill = s.fill ∧ (changeRecord f s).coag = s.coag ∧
      (changeRecord f s).knife = s.knife ∧ (changeRecord f s).queue = s.queue ∧
      (changeRecord f s).press = s.press ∧ (changeRecord f s).alerts = s.alerts ∧
      (changeRecord f s).port = s.port ∧ (changeRecord f s).store = s.store ∧ (changeRecord f s).free = s.free := by
  simp only [changeRecord]
  (repeat' split) <;> simp

@[simp] theorem noteFirstFault_frame (s : State) :
    (noteFirstFault s).pending = s.pending ∧ (noteFirstFault s).lines = s.lines ∧
      (noteFirstFault s).start = s.start ∧ (noteFirstFault s).config = s.config ∧
      (noteFirstFault s).link = s.link ∧ (noteFirstFault s).peers = s.peers ∧ (noteFirstFault s).milk = s.milk ∧
      (noteFirstFault s).air = s.air ∧ (noteFirstFault s).fill = s.fill ∧ (noteFirstFault s).coag = s.coag ∧
      (noteFirstFault s).knife = s.knife ∧ (noteFirstFault s).queue = s.queue ∧
      (noteFirstFault s).press = s.press ∧ (noteFirstFault s).alerts = s.alerts ∧
      (noteFirstFault s).port = s.port ∧ (noteFirstFault s).store = s.store ∧ (noteFirstFault s).free = s.free := by
  simp only [noteFirstFault]
  (repeat' split) <;> simp

@[simp] theorem addReason_frame (r : Reason) (s : State) :
    (addReason r s).pending = s.pending ∧ (addReason r s).lines = s.lines ∧ (addReason r s).start = s.start ∧
      (addReason r s).config = s.config ∧ (addReason r s).link = s.link ∧ (addReason r s).peers = s.peers ∧
      (addReason r s).air = s.air ∧ (addReason r s).queue = s.queue ∧ (addReason r s).press = s.press ∧
      (addReason r s).alerts = s.alerts ∧ (addReason r s).port = s.port ∧ (addReason r s).store = s.store ∧
      (addReason r s).free = s.free := by
  simp only [addReason]
  (repeat' split) <;> simp

@[simp] theorem raiseIn_frame (c : RunConfig) (k : AlertKind) (d b : Nat) (st : Step) (s : State) :
    (raiseIn c k d b st s).pending = s.pending ∧ (raiseIn c k d b st s).lines = s.lines ∧
      (raiseIn c k d b st s).start = s.start ∧ (raiseIn c k d b st s).config = s.config ∧
      (raiseIn c k d b st s).peers = s.peers ∧ (raiseIn c k d b st s).air = s.air ∧
      (raiseIn c k d b st s).queue = s.queue ∧ (raiseIn c k d b st s).press = s.press ∧
      (raiseIn c k d b st s).port = s.port ∧ (raiseIn c k d b st s).store = s.store ∧
      (raiseIn c k d b st s).free = s.free := by
  simp only [raiseIn]
  (repeat' split) <;> simp

@[simp] theorem raise_frame (c : RunConfig) (k : AlertKind) (d : Nat) (s : State) :
    (raise c k d s).pending = s.pending ∧ (raise c k d s).lines = s.lines ∧ (raise c k d s).start = s.start ∧
      (raise c k d s).config = s.config ∧ (raise c k d s).peers = s.peers ∧ (raise c k d s).air = s.air ∧
      (raise c k d s).queue = s.queue ∧ (raise c k d s).press = s.press ∧ (raise c k d s).port = s.port ∧
      (raise c k d s).store = s.store ∧ (raise c k d s).free = s.free := by
  simp only [raise]
  (repeat' split) <;> simp

@[simp] theorem moveBand_milk_frame (c : RunConfig) (s : State) :
    (moveBand c .milk s).1.pending = s.pending ∧ (moveBand c .milk s).1.lines = s.lines ∧
      (moveBand c .milk s).1.start = s.start ∧ (moveBand c .milk s).1.config = s.config ∧
      (moveBand c .milk s).1.link = s.link ∧ (moveBand c .milk s).1.peers = s.peers ∧
      (moveBand c .milk s).1.air = s.air ∧ (moveBand c .milk s).1.seq = s.seq ∧
      (moveBand c .milk s).1.coag = s.coag ∧ (moveBand c .milk s).1.knife = s.knife ∧
      (moveBand c .milk s).1.queue = s.queue ∧ (moveBand c .milk s).1.press = s.press ∧
      (moveBand c .milk s).1.alerts = s.alerts ∧ (moveBand c .milk s).1.port = s.port ∧
      (moveBand c .milk s).1.store = s.store ∧ (moveBand c .milk s).1.free = s.free := by
  simp only [moveBand, State.pool, State.setPool]
  (repeat' split) <;> simp

@[simp] theorem moveBand_air_frame (c : RunConfig) (s : State) :
    (moveBand c .air s).1.pending = s.pending ∧ (moveBand c .air s).1.lines = s.lines ∧
      (moveBand c .air s).1.start = s.start ∧ (moveBand c .air s).1.config = s.config ∧
      (moveBand c .air s).1.link = s.link ∧ (moveBand c .air s).1.peers = s.peers ∧
      (moveBand c .air s).1.milk = s.milk ∧ (moveBand c .air s).1.seq = s.seq ∧
      (moveBand c .air s).1.fill = s.fill ∧ (moveBand c .air s).1.coag = s.coag ∧
      (moveBand c .air s).1.knife = s.knife ∧ (moveBand c .air s).1.queue = s.queue ∧
      (moveBand c .air s).1.alerts = s.alerts ∧ (moveBand c .air s).1.port = s.port ∧
      (moveBand c .air s).1.store = s.store ∧ (moveBand c .air s).1.free = s.free := by
  simp only [moveBand, State.pool, State.setPool]
  (repeat' split) <;> simp

@[simp] theorem degradeTap_milk_frame (c : RunConfig) (s : State) :
    (degradeTap c .milk s).1.pending = s.pending ∧ (degradeTap c .milk s).1.lines = s.lines ∧
      (degradeTap c .milk s).1.start = s.start ∧ (degradeTap c .milk s).1.config = s.config ∧
      (degradeTap c .milk s).1.link = s.link ∧ (degradeTap c .milk s).1.peers = s.peers ∧
      (degradeTap c .milk s).1.air = s.air ∧ (degradeTap c .milk s).1.seq = s.seq ∧
      (degradeTap c .milk s).1.coag = s.coag ∧ (degradeTap c .milk s).1.knife = s.knife ∧
      (degradeTap c .milk s).1.queue = s.queue ∧ (degradeTap c .milk s).1.press = s.press ∧
      (degradeTap c .milk s).1.alerts = s.alerts ∧ (degradeTap c .milk s).1.port = s.port ∧
      (degradeTap c .milk s).1.store = s.store ∧ (degradeTap c .milk s).1.free = s.free := by
  unfold degradeTap
  by_cases h : degrades s.milk = true <;> by_cases h' : s.milk.band = .low <;> simp [State.pool, State.setPool, h, h']

@[simp] theorem degradeTap_air_frame (c : RunConfig) (s : State) :
    (degradeTap c .air s).1.pending = s.pending ∧ (degradeTap c .air s).1.lines = s.lines ∧
      (degradeTap c .air s).1.start = s.start ∧ (degradeTap c .air s).1.config = s.config ∧
      (degradeTap c .air s).1.link = s.link ∧ (degradeTap c .air s).1.peers = s.peers ∧
      (degradeTap c .air s).1.milk = s.milk ∧ (degradeTap c .air s).1.seq = s.seq ∧
      (degradeTap c .air s).1.fill = s.fill ∧ (degradeTap c .air s).1.coag = s.coag ∧
      (degradeTap c .air s).1.knife = s.knife ∧ (degradeTap c .air s).1.queue = s.queue ∧
      (degradeTap c .air s).1.alerts = s.alerts ∧ (degradeTap c .air s).1.port = s.port ∧
      (degradeTap c .air s).1.store = s.store ∧ (degradeTap c .air s).1.free = s.free := by
  unfold degradeTap
  by_cases h : degrades s.air = true <;> by_cases h' : s.air.band = .low <;> simp [State.pool, State.setPool, h, h']

@[simp] theorem judgeTap_milk_frame (c : RunConfig) (r : Raw) (s : State) :
    (judgeTap c .milk r s).1.pending = s.pending ∧ (judgeTap c .milk r s).1.lines = s.lines ∧
      (judgeTap c .milk r s).1.start = s.start ∧ (judgeTap c .milk r s).1.config = s.config ∧
      (judgeTap c .milk r s).1.link = s.link ∧ (judgeTap c .milk r s).1.peers = s.peers ∧
      (judgeTap c .milk r s).1.air = s.air ∧ (judgeTap c .milk r s).1.seq = s.seq ∧
      (judgeTap c .milk r s).1.coag = s.coag ∧ (judgeTap c .milk r s).1.knife = s.knife ∧
      (judgeTap c .milk r s).1.queue = s.queue ∧ (judgeTap c .milk r s).1.press = s.press ∧
      (judgeTap c .milk r s).1.alerts = s.alerts ∧ (judgeTap c .milk r s).1.port = s.port ∧
      (judgeTap c .milk r s).1.store = s.store ∧ (judgeTap c .milk r s).1.free = s.free := by
  simp only [judgeTap, State.pool, State.setPool]
  (repeat' split) <;> simp

@[simp] theorem judgeTap_air_frame (c : RunConfig) (r : Raw) (s : State) :
    (judgeTap c .air r s).1.pending = s.pending ∧ (judgeTap c .air r s).1.lines = s.lines ∧
      (judgeTap c .air r s).1.start = s.start ∧ (judgeTap c .air r s).1.config = s.config ∧
      (judgeTap c .air r s).1.link = s.link ∧ (judgeTap c .air r s).1.peers = s.peers ∧
      (judgeTap c .air r s).1.milk = s.milk ∧ (judgeTap c .air r s).1.seq = s.seq ∧
      (judgeTap c .air r s).1.fill = s.fill ∧ (judgeTap c .air r s).1.coag = s.coag ∧
      (judgeTap c .air r s).1.knife = s.knife ∧ (judgeTap c .air r s).1.queue = s.queue ∧
      (judgeTap c .air r s).1.alerts = s.alerts ∧ (judgeTap c .air r s).1.port = s.port ∧
      (judgeTap c .air r s).1.store = s.store ∧ (judgeTap c .air r s).1.free = s.free := by
  simp only [judgeTap, State.pool, State.setPool]
  (repeat' split) <;> simp

theorem raiseKind_frame (c : RunConfig) (k : AlertKind) (rs : List Raise) (s : State) :
    (rs.foldl (fun s r => if r.1 = k then raise c k r.2 s else s) s).pending = s.pending ∧
      (rs.foldl (fun s r => if r.1 = k then raise c k r.2 s else s) s).lines = s.lines ∧
      (rs.foldl (fun s r => if r.1 = k then raise c k r.2 s else s) s).start = s.start ∧
      (rs.foldl (fun s r => if r.1 = k then raise c k r.2 s else s) s).config = s.config ∧
      (rs.foldl (fun s r => if r.1 = k then raise c k r.2 s else s) s).peers = s.peers ∧
      (rs.foldl (fun s r => if r.1 = k then raise c k r.2 s else s) s).air = s.air ∧
      (rs.foldl (fun s r => if r.1 = k then raise c k r.2 s else s) s).queue = s.queue ∧
      (rs.foldl (fun s r => if r.1 = k then raise c k r.2 s else s) s).press = s.press ∧
      (rs.foldl (fun s r => if r.1 = k then raise c k r.2 s else s) s).port = s.port ∧
      (rs.foldl (fun s r => if r.1 = k then raise c k r.2 s else s) s).store = s.store ∧
      (rs.foldl (fun s r => if r.1 = k then raise c k r.2 s else s) s).free = s.free := by
  induction rs generalizing s with
  | nil => simp
  | cons r rs ih =>
    simp only [List.foldl_cons]
    split <;> simp [ih]

@[simp] theorem raiseAll_frame (c : RunConfig) (rs : List Raise) (s : State) :
    (raiseAll c rs s).pending = s.pending ∧ (raiseAll c rs s).lines = s.lines ∧ (raiseAll c rs s).start = s.start ∧
      (raiseAll c rs s).config = s.config ∧ (raiseAll c rs s).peers = s.peers ∧ (raiseAll c rs s).air = s.air ∧
      (raiseAll c rs s).queue = s.queue ∧ (raiseAll c rs s).press = s.press ∧ (raiseAll c rs s).port = s.port ∧
      (raiseAll c rs s).store = s.store ∧ (raiseAll c rs s).free = s.free := by
  unfold raiseAll
  generalize AlertKind.all = ks
  induction ks generalizing s with
  | nil => simp
  | cons k ks ih => simp [ih, raiseKind_frame c k rs s]

@[simp] theorem sampleBands_frame (c : RunConfig) (m a : Raw) (s : State) :
    (sampleBands c m a s).pending = s.pending ∧ (sampleBands c m a s).lines = s.lines ∧
      (sampleBands c m a s).start = s.start ∧ (sampleBands c m a s).config = s.config ∧
      (sampleBands c m a s).peers = s.peers ∧ (sampleBands c m a s).queue = s.queue ∧
      (sampleBands c m a s).port = s.port ∧ (sampleBands c m a s).store = s.store ∧
      (sampleBands c m a s).free = s.free := by
  simp only [sampleBands]
  (repeat' split) <;> simp

@[simp] theorem acknowledge_frame (n : Nat) (s : State) :
    (acknowledge n s).pending = s.pending ∧ (acknowledge n s).lines = s.lines ∧ (acknowledge n s).start = s.start ∧
      (acknowledge n s).config = s.config ∧ (acknowledge n s).link = s.link ∧ (acknowledge n s).peers = s.peers ∧
      (acknowledge n s).milk = s.milk ∧ (acknowledge n s).air = s.air ∧ (acknowledge n s).seq = s.seq ∧
      (acknowledge n s).fill = s.fill ∧ (acknowledge n s).coag = s.coag ∧ (acknowledge n s).knife = s.knife ∧
      (acknowledge n s).queue = s.queue ∧ (acknowledge n s).press = s.press ∧ (acknowledge n s).port = s.port ∧
      (acknowledge n s).store = s.store ∧ (acknowledge n s).free = s.free := by
  simp only [acknowledge]
  (repeat' split) <;> simp

@[simp] theorem saveCheckpoint_frame (s : State) :
    (saveCheckpoint s).pending = s.pending ∧ (saveCheckpoint s).lines = s.lines ∧
      (saveCheckpoint s).start = s.start ∧ (saveCheckpoint s).config = s.config ∧
      (saveCheckpoint s).link = s.link ∧ (saveCheckpoint s).peers = s.peers ∧ (saveCheckpoint s).milk = s.milk ∧
      (saveCheckpoint s).air = s.air ∧ (saveCheckpoint s).seq = s.seq ∧ (saveCheckpoint s).fill = s.fill ∧
      (saveCheckpoint s).coag = s.coag ∧ (saveCheckpoint s).knife = s.knife ∧ (saveCheckpoint s).queue = s.queue ∧
      (saveCheckpoint s).press = s.press ∧ (saveCheckpoint s).alerts = s.alerts ∧
      (saveCheckpoint s).port = s.port ∧ (saveCheckpoint s).free = s.free := by
  simp only [saveCheckpoint]
  (repeat' split) <;> simp

@[simp] theorem enterStep_frame (st : Step) (ph : Phase) (s : State) :
    (enterStep st ph s).pending = s.pending ∧ (enterStep st ph s).lines = s.lines ∧
      (enterStep st ph s).start = s.start ∧ (enterStep st ph s).config = s.config ∧
      (enterStep st ph s).link = s.link ∧ (enterStep st ph s).peers = s.peers ∧ (enterStep st ph s).milk = s.milk ∧
      (enterStep st ph s).air = s.air ∧ (enterStep st ph s).fill = s.fill ∧ (enterStep st ph s).coag = s.coag ∧
      (enterStep st ph s).knife = s.knife ∧ (enterStep st ph s).queue = s.queue ∧
      (enterStep st ph s).press = s.press ∧ (enterStep st ph s).alerts = s.alerts ∧
      (enterStep st ph s).port = s.port ∧ (enterStep st ph s).free = s.free := by
  simp only [enterStep]
  (repeat' split) <;> simp

@[simp] theorem writeHistory_frame (r : BatchRecord) (s : State) :
    (writeHistory r s).pending = s.pending ∧ (writeHistory r s).lines = s.lines ∧
      (writeHistory r s).start = s.start ∧ (writeHistory r s).config = s.config ∧
      (writeHistory r s).link = s.link ∧ (writeHistory r s).peers = s.peers ∧ (writeHistory r s).milk = s.milk ∧
      (writeHistory r s).air = s.air ∧ (writeHistory r s).seq = s.seq ∧ (writeHistory r s).fill = s.fill ∧
      (writeHistory r s).coag = s.coag ∧ (writeHistory r s).knife = s.knife ∧ (writeHistory r s).queue = s.queue ∧
      (writeHistory r s).press = s.press ∧ (writeHistory r s).alerts = s.alerts ∧
      (writeHistory r s).port = s.port ∧ (writeHistory r s).free = s.free := by
  simp only [writeHistory]
  (repeat' split) <;> simp

@[simp] theorem changeHistory_frame (n : Nat) (f : BatchRecord → BatchRecord) (s : State) :
    (changeHistory n f s).pending = s.pending ∧ (changeHistory n f s).lines = s.lines ∧
      (changeHistory n f s).start = s.start ∧ (changeHistory n f s).config = s.config ∧
      (changeHistory n f s).link = s.link ∧ (changeHistory n f s).peers = s.peers ∧
      (changeHistory n f s).milk = s.milk ∧ (changeHistory n f s).air = s.air ∧ (changeHistory n f s).seq = s.seq ∧
      (changeHistory n f s).fill = s.fill ∧ (changeHistory n f s).coag = s.coag ∧
      (changeHistory n f s).knife = s.knife ∧ (changeHistory n f s).queue = s.queue ∧
      (changeHistory n f s).press = s.press ∧ (changeHistory n f s).alerts = s.alerts ∧
      (changeHistory n f s).port = s.port ∧ (changeHistory n f s).free = s.free := by
  simp only [changeHistory]
  (repeat' split) <;> simp

@[simp] theorem offerReport_frame (r : BatchRecord) (s : State) :
    (offerReport r s).pending = s.pending ∧ (offerReport r s).lines = s.lines ∧ (offerReport r s).start = s.start ∧
      (offerReport r s).config = s.config ∧ (offerReport r s).peers = s.peers ∧ (offerReport r s).milk = s.milk ∧
      (offerReport r s).air = s.air ∧ (offerReport r s).seq = s.seq ∧ (offerReport r s).fill = s.fill ∧
      (offerReport r s).coag = s.coag ∧ (offerReport r s).knife = s.knife ∧ (offerReport r s).queue = s.queue ∧
      (offerReport r s).press = s.press ∧ (offerReport r s).alerts = s.alerts ∧ (offerReport r s).port = s.port ∧
      (offerReport r s).store = s.store ∧ (offerReport r s).free = s.free := by
  simp only [offerReport]
  (repeat' split) <;> simp

@[simp] theorem laneCheck_frame (n : Nat) (s : State) :
    (laneCheck n s).pending = s.pending ∧ (laneCheck n s).lines = s.lines ∧ (laneCheck n s).start = s.start ∧
      (laneCheck n s).config = s.config ∧ (laneCheck n s).peers = s.peers ∧ (laneCheck n s).milk = s.milk ∧
      (laneCheck n s).air = s.air ∧ (laneCheck n s).seq = s.seq ∧ (laneCheck n s).fill = s.fill ∧
      (laneCheck n s).coag = s.coag ∧ (laneCheck n s).knife = s.knife ∧ (laneCheck n s).queue = s.queue ∧
      (laneCheck n s).press = s.press ∧ (laneCheck n s).alerts = s.alerts ∧ (laneCheck n s).port = s.port ∧
      (laneCheck n s).free = s.free := by
  simp only [laneCheck]
  (repeat' split) <;> simp

@[simp] theorem countUnload_frame (n : Nat) (b : Bool) (s : State) :
    (countUnload n b s).pending = s.pending ∧ (countUnload n b s).lines = s.lines ∧
      (countUnload n b s).start = s.start ∧ (countUnload n b s).config = s.config ∧
      (countUnload n b s).peers = s.peers ∧ (countUnload n b s).milk = s.milk ∧ (countUnload n b s).air = s.air ∧
      (countUnload n b s).fill = s.fill ∧ (countUnload n b s).coag = s.coag ∧ (countUnload n b s).knife = s.knife ∧
      (countUnload n b s).queue = s.queue ∧ (countUnload n b s).press = s.press ∧
      (countUnload n b s).alerts = s.alerts ∧ (countUnload n b s).port = s.port ∧ (countUnload n b s).free = s.free := by
  simp only [countUnload]
  (repeat' split) <;> simp

@[simp] theorem closeOnVat_frame (s : State) :
    (closeOnVat s).pending = s.pending ∧ (closeOnVat s).lines = s.lines ∧ (closeOnVat s).start = s.start ∧
      (closeOnVat s).config = s.config ∧ (closeOnVat s).peers = s.peers ∧ (closeOnVat s).milk = s.milk ∧
      (closeOnVat s).air = s.air ∧ (closeOnVat s).fill = s.fill ∧ (closeOnVat s).coag = s.coag ∧
      (closeOnVat s).knife = s.knife ∧ (closeOnVat s).queue = s.queue ∧ (closeOnVat s).press = s.press ∧
      (closeOnVat s).alerts = s.alerts ∧ (closeOnVat s).port = s.port ∧ (closeOnVat s).free = s.free := by
  simp only [closeOnVat]
  (repeat' split) <;> simp

@[simp] theorem endMoulding_frame (s : State) :
    (endMoulding s).pending = s.pending ∧ (endMoulding s).lines = s.lines ∧ (endMoulding s).start = s.start ∧
      (endMoulding s).config = s.config ∧ (endMoulding s).peers = s.peers ∧ (endMoulding s).milk = s.milk ∧
      (endMoulding s).air = s.air ∧ (endMoulding s).fill = s.fill ∧ (endMoulding s).coag = s.coag ∧
      (endMoulding s).knife = s.knife ∧ (endMoulding s).queue = s.queue ∧ (endMoulding s).press = s.press ∧
      (endMoulding s).alerts = s.alerts ∧ (endMoulding s).port = s.port ∧ (endMoulding s).free = s.free := by
  simp only [endMoulding]
  (repeat' split) <;> simp

@[simp] theorem checkMouldingEnd_frame (c : RunConfig) (s : State) :
    (checkMouldingEnd c s).pending = s.pending ∧ (checkMouldingEnd c s).lines = s.lines ∧
      (checkMouldingEnd c s).start = s.start ∧ (checkMouldingEnd c s).config = s.config ∧
      (checkMouldingEnd c s).peers = s.peers ∧ (checkMouldingEnd c s).milk = s.milk ∧
      (checkMouldingEnd c s).air = s.air ∧ (checkMouldingEnd c s).fill = s.fill ∧
      (checkMouldingEnd c s).coag = s.coag ∧ (checkMouldingEnd c s).knife = s.knife ∧
      (checkMouldingEnd c s).queue = s.queue ∧ (checkMouldingEnd c s).press = s.press ∧
      (checkMouldingEnd c s).alerts = s.alerts ∧ (checkMouldingEnd c s).port = s.port ∧
      (checkMouldingEnd c s).free = s.free := by
  simp only [checkMouldingEnd]
  (repeat' split) <;> simp

@[simp] theorem vatEmptyEnd_frame (c : RunConfig) (s : State) :
    (vatEmptyEnd c s).pending = s.pending ∧ (vatEmptyEnd c s).lines = s.lines ∧ (vatEmptyEnd c s).start = s.start ∧
      (vatEmptyEnd c s).config = s.config ∧ (vatEmptyEnd c s).peers = s.peers ∧ (vatEmptyEnd c s).air = s.air ∧
      (vatEmptyEnd c s).queue = s.queue ∧ (vatEmptyEnd c s).press = s.press ∧ (vatEmptyEnd c s).port = s.port ∧
      (vatEmptyEnd c s).free = s.free := by
  simp only [vatEmptyEnd]
  (repeat' split) <;> simp

@[simp] theorem enterMoulding_frame (c : RunConfig) (s : State) :
    (enterMoulding c s).pending = s.pending ∧ (enterMoulding c s).lines = s.lines ∧
      (enterMoulding c s).start = s.start ∧ (enterMoulding c s).config = s.config ∧
      (enterMoulding c s).peers = s.peers ∧ (enterMoulding c s).air = s.air ∧ (enterMoulding c s).press = s.press ∧
      (enterMoulding c s).port = s.port ∧ (enterMoulding c s).free = s.free := by
  simp only [enterMoulding]
  (repeat' split) <;> simp

@[simp] theorem retune_frame (c : RunConfig) (s : State) :
    (retune c s).pending = s.pending ∧ (retune c s).lines = s.lines ∧ (retune c s).start = s.start ∧
      (retune c s).config = s.config ∧ (retune c s).link = s.link ∧ (retune c s).peers = s.peers ∧
      (retune c s).milk = s.milk ∧ (retune c s).air = s.air ∧ (retune c s).seq = s.seq ∧
      (retune c s).fill = s.fill ∧ (retune c s).coag = s.coag ∧ (retune c s).queue = s.queue ∧
      (retune c s).press = s.press ∧ (retune c s).alerts = s.alerts ∧ (retune c s).port = s.port ∧
      (retune c s).store = s.store ∧ (retune c s).free = s.free := by
  simp only [retune]
  (repeat' split) <;> simp

@[simp] theorem enterStirRun_frame (c : RunConfig) (s : State) :
    (enterStirRun c s).pending = s.pending ∧ (enterStirRun c s).lines = s.lines ∧
      (enterStirRun c s).start = s.start ∧ (enterStirRun c s).config = s.config ∧
      (enterStirRun c s).peers = s.peers ∧ (enterStirRun c s).air = s.air ∧ (enterStirRun c s).press = s.press ∧
      (enterStirRun c s).port = s.port ∧ (enterStirRun c s).free = s.free := by
  simp only [enterStirRun]
  (repeat' split) <;> simp

@[simp] theorem enterStirRamp_frame (c : RunConfig) (s : State) :
    (enterStirRamp c s).pending = s.pending ∧ (enterStirRamp c s).lines = s.lines ∧
      (enterStirRamp c s).start = s.start ∧ (enterStirRamp c s).config = s.config ∧
      (enterStirRamp c s).peers = s.peers ∧ (enterStirRamp c s).air = s.air ∧ (enterStirRamp c s).press = s.press ∧
      (enterStirRamp c s).port = s.port ∧ (enterStirRamp c s).free = s.free := by
  simp only [enterStirRamp]
  (repeat' split) <;> simp

@[simp] theorem faultDrive_frame (c : RunConfig) (k : AlertKind) (s : State) :
    (faultDrive c k s).pending = s.pending ∧ (faultDrive c k s).lines = s.lines ∧
      (faultDrive c k s).start = s.start ∧ (faultDrive c k s).config = s.config ∧
      (faultDrive c k s).peers = s.peers ∧ (faultDrive c k s).air = s.air ∧ (faultDrive c k s).queue = s.queue ∧
      (faultDrive c k s).press = s.press ∧ (faultDrive c k s).port = s.port ∧ (faultDrive c k s).store = s.store ∧
      (faultDrive c k s).free = s.free := by
  simp only [faultDrive]
  (repeat' split) <;> simp

@[simp] theorem startDrive_frame (c : RunConfig) (s : State) :
    (startDrive c s).pending = s.pending ∧ (startDrive c s).lines = s.lines ∧ (startDrive c s).start = s.start ∧
      (startDrive c s).config = s.config ∧ (startDrive c s).peers = s.peers ∧ (startDrive c s).air = s.air ∧
      (startDrive c s).press = s.press ∧ (startDrive c s).port = s.port ∧ (startDrive c s).free = s.free := by
  simp only [startDrive]
  (repeat' split) <;> simp

@[simp] theorem requestJob_frame (c : RunConfig) (j : Job) (s : State) :
    (requestJob c j s).pending = s.pending ∧ (requestJob c j s).lines = s.lines ∧
      (requestJob c j s).start = s.start ∧ (requestJob c j s).config = s.config ∧
      (requestJob c j s).peers = s.peers ∧ (requestJob c j s).air = s.air ∧ (requestJob c j s).press = s.press ∧
      (requestJob c j s).port = s.port ∧ (requestJob c j s).free = s.free := by
  simp only [requestJob]
  (repeat' split) <;> simp

@[simp] theorem enterStirring_frame (c : RunConfig) (s : State) :
    (enterStirring c s).pending = s.pending ∧ (enterStirring c s).lines = s.lines ∧
      (enterStirring c s).start = s.start ∧ (enterStirring c s).config = s.config ∧
      (enterStirring c s).peers = s.peers ∧ (enterStirring c s).air = s.air ∧ (enterStirring c s).press = s.press ∧
      (enterStirring c s).port = s.port ∧ (enterStirring c s).free = s.free := by
  simp only [enterStirring]
  (repeat' split) <;> simp

@[simp] theorem checkCutRun_frame (c : RunConfig) (s : State) :
    (checkCutRun c s).pending = s.pending ∧ (checkCutRun c s).lines = s.lines ∧ (checkCutRun c s).start = s.start ∧
      (checkCutRun c s).config = s.config ∧ (checkCutRun c s).peers = s.peers ∧ (checkCutRun c s).air = s.air ∧
      (checkCutRun c s).press = s.press ∧ (checkCutRun c s).port = s.port ∧ (checkCutRun c s).free = s.free := by
  simp only [checkCutRun]
  (repeat' split) <;> simp

@[simp] theorem checkRampRun_frame (c : RunConfig) (s : State) :
    (checkRampRun c s).pending = s.pending ∧ (checkRampRun c s).lines = s.lines ∧
      (checkRampRun c s).start = s.start ∧ (checkRampRun c s).config = s.config ∧
      (checkRampRun c s).peers = s.peers ∧ (checkRampRun c s).air = s.air ∧ (checkRampRun c s).press = s.press ∧
      (checkRampRun c s).port = s.port ∧ (checkRampRun c s).free = s.free := by
  simp only [checkRampRun]
  (repeat' split) <;> simp

@[simp] theorem checkStirRun_frame (c : RunConfig) (s : State) :
    (checkStirRun c s).pending = s.pending ∧ (checkStirRun c s).lines = s.lines ∧
      (checkStirRun c s).start = s.start ∧ (checkStirRun c s).config = s.config ∧
      (checkStirRun c s).peers = s.peers ∧ (checkStirRun c s).air = s.air ∧ (checkStirRun c s).press = s.press ∧
      (checkStirRun c s).port = s.port ∧ (checkStirRun c s).free = s.free := by
  simp only [checkStirRun]
  (repeat' split) <;> simp

@[simp] theorem driveSecond_frame (c : RunConfig) (s : State) :
    (driveSecond c s).pending = s.pending ∧ (driveSecond c s).lines = s.lines ∧ (driveSecond c s).start = s.start ∧
      (driveSecond c s).config = s.config ∧ (driveSecond c s).peers = s.peers ∧ (driveSecond c s).air = s.air ∧
      (driveSecond c s).press = s.press ∧ (driveSecond c s).port = s.port ∧ (driveSecond c s).free = s.free := by
  simp only [driveSecond]
  (repeat' split) <;> simp

@[simp] theorem endDwell_frame (c : RunConfig) (s : State) :
    (endDwell c s).pending = s.pending ∧ (endDwell c s).lines = s.lines ∧ (endDwell c s).start = s.start ∧
      (endDwell c s).config = s.config ∧ (endDwell c s).peers = s.peers ∧ (endDwell c s).air = s.air ∧
      (endDwell c s).press = s.press ∧ (endDwell c s).port = s.port ∧ (endDwell c s).free = s.free := by
  simp only [endDwell]
  (repeat' split) <;> simp

@[simp] theorem endGrace_frame (s : State) :
    (endGrace s).pending = s.pending ∧ (endGrace s).lines = s.lines ∧ (endGrace s).start = s.start ∧
      (endGrace s).config = s.config ∧ (endGrace s).link = s.link ∧ (endGrace s).peers = s.peers ∧
      (endGrace s).milk = s.milk ∧ (endGrace s).air = s.air ∧ (endGrace s).seq = s.seq ∧
      (endGrace s).fill = s.fill ∧ (endGrace s).coag = s.coag ∧ (endGrace s).queue = s.queue ∧
      (endGrace s).press = s.press ∧ (endGrace s).alerts = s.alerts ∧ (endGrace s).port = s.port ∧
      (endGrace s).store = s.store ∧ (endGrace s).free = s.free := by
  simp only [endGrace]
  (repeat' split) <;> simp

@[simp] theorem checkStall_frame (c : RunConfig) (s : State) :
    (checkStall c s).pending = s.pending ∧ (checkStall c s).lines = s.lines ∧ (checkStall c s).start = s.start ∧
      (checkStall c s).config = s.config ∧ (checkStall c s).peers = s.peers ∧ (checkStall c s).air = s.air ∧
      (checkStall c s).queue = s.queue ∧ (checkStall c s).press = s.press ∧ (checkStall c s).port = s.port ∧
      (checkStall c s).store = s.store ∧ (checkStall c s).free = s.free := by
  simp only [checkStall]
  (repeat' split) <;> simp

@[simp] theorem turnEdge_frame (s : State) :
    (turnEdge s).pending = s.pending ∧ (turnEdge s).lines = s.lines ∧ (turnEdge s).start = s.start ∧
      (turnEdge s).config = s.config ∧ (turnEdge s).link = s.link ∧ (turnEdge s).peers = s.peers ∧
      (turnEdge s).milk = s.milk ∧ (turnEdge s).air = s.air ∧ (turnEdge s).seq = s.seq ∧
      (turnEdge s).fill = s.fill ∧ (turnEdge s).coag = s.coag ∧ (turnEdge s).queue = s.queue ∧
      (turnEdge s).press = s.press ∧ (turnEdge s).alerts = s.alerts ∧ (turnEdge s).port = s.port ∧
      (turnEdge s).store = s.store ∧ (turnEdge s).free = s.free := by
  simp only [turnEdge]
  (repeat' split) <;> simp

@[simp] theorem driveFaultRises_frame (c : RunConfig) (s : State) :
    (driveFaultRises c s).pending = s.pending ∧ (driveFaultRises c s).lines = s.lines ∧
      (driveFaultRises c s).start = s.start ∧ (driveFaultRises c s).config = s.config ∧
      (driveFaultRises c s).peers = s.peers ∧ (driveFaultRises c s).air = s.air ∧
      (driveFaultRises c s).queue = s.queue ∧ (driveFaultRises c s).press = s.press ∧
      (driveFaultRises c s).port = s.port ∧ (driveFaultRises c s).store = s.store ∧
      (driveFaultRises c s).free = s.free := by
  simp only [driveFaultRises]
  (repeat' split) <;> simp

@[simp] theorem enterCutting_frame (c : RunConfig) (r : Recipe) (a l : Nat) (s : State) :
    (enterCutting c r a l s).pending = s.pending ∧ (enterCutting c r a l s).lines = s.lines ∧
      (enterCutting c r a l s).start = s.start ∧ (enterCutting c r a l s).config = s.config ∧
      (enterCutting c r a l s).peers = s.peers ∧ (enterCutting c r a l s).air = s.air ∧
      (enterCutting c r a l s).press = s.press ∧ (enterCutting c r a l s).port = s.port ∧
      (enterCutting c r a l s).free = s.free := by
  simp only [enterCutting]
  (repeat' split) <;> simp

@[simp] theorem cutFallsDue_frame (c : RunConfig) (r : Recipe) (a : Nat) (s : State) :
    (cutFallsDue c r a s).pending = s.pending ∧ (cutFallsDue c r a s).lines = s.lines ∧
      (cutFallsDue c r a s).start = s.start ∧ (cutFallsDue c r a s).config = s.config ∧
      (cutFallsDue c r a s).peers = s.peers ∧ (cutFallsDue c r a s).air = s.air ∧
      (cutFallsDue c r a s).press = s.press ∧ (cutFallsDue c r a s).port = s.port ∧
      (cutFallsDue c r a s).free = s.free := by
  simp only [cutFallsDue]
  (repeat' split) <;> simp

@[simp] theorem noFloc_frame (c : RunConfig) (r : Recipe) (s : State) :
    (noFloc c r s).pending = s.pending ∧ (noFloc c r s).lines = s.lines ∧ (noFloc c r s).start = s.start ∧
      (noFloc c r s).config = s.config ∧ (noFloc c r s).peers = s.peers ∧ (noFloc c r s).air = s.air ∧
      (noFloc c r s).press = s.press ∧ (noFloc c r s).port = s.port ∧ (noFloc c r s).free = s.free := by
  simp only [noFloc]
  (repeat' split) <;> simp

@[simp] theorem checkNoFloc_frame (c : RunConfig) (r : Recipe) (s : State) :
    (checkNoFloc c r s).pending = s.pending ∧ (checkNoFloc c r s).lines = s.lines ∧
      (checkNoFloc c r s).start = s.start ∧ (checkNoFloc c r s).config = s.config ∧
      (checkNoFloc c r s).peers = s.peers ∧ (checkNoFloc c r s).air = s.air ∧ (checkNoFloc c r s).press = s.press ∧
      (checkNoFloc c r s).port = s.port ∧ (checkNoFloc c r s).free = s.free := by
  simp only [checkNoFloc]
  (repeat' split) <;> simp

@[simp] theorem firmnessFault_frame (c : RunConfig) (r : Recipe) (n : Nat) (s : State) :
    (firmnessFault c r n s).pending = s.pending ∧ (firmnessFault c r n s).lines = s.lines ∧
      (firmnessFault c r n s).start = s.start ∧ (firmnessFault c r n s).config = s.config ∧
      (firmnessFault c r n s).peers = s.peers ∧ (firmnessFault c r n s).air = s.air ∧
      (firmnessFault c r n s).press = s.press ∧ (firmnessFault c r n s).port = s.port ∧
      (firmnessFault c r n s).free = s.free := by
  simp only [firmnessFault]
  (repeat' split) <;> simp

@[simp] theorem checkFirmnessFault_frame (c : RunConfig) (r : Recipe) (n : Nat) (s : State) :
    (checkFirmnessFault c r n s).pending = s.pending ∧ (checkFirmnessFault c r n s).lines = s.lines ∧
      (checkFirmnessFault c r n s).start = s.start ∧ (checkFirmnessFault c r n s).config = s.config ∧
      (checkFirmnessFault c r n s).peers = s.peers ∧ (checkFirmnessFault c r n s).air = s.air ∧
      (checkFirmnessFault c r n s).press = s.press ∧ (checkFirmnessFault c r n s).port = s.port ∧
      (checkFirmnessFault c r n s).free = s.free := by
  simp only [checkFirmnessFault]
  (repeat' split) <;> simp

@[simp] theorem checkCutDue_frame (c : RunConfig) (r : Recipe) (s : State) :
    (checkCutDue c r s).pending = s.pending ∧ (checkCutDue c r s).lines = s.lines ∧
      (checkCutDue c r s).start = s.start ∧ (checkCutDue c r s).config = s.config ∧
      (checkCutDue c r s).peers = s.peers ∧ (checkCutDue c r s).air = s.air ∧ (checkCutDue c r s).press = s.press ∧
      (checkCutDue c r s).port = s.port ∧ (checkCutDue c r s).free = s.free := by
  simp only [checkCutDue]
  (repeat' split) <;> simp

@[simp] theorem enterQuiet_frame (s : State) :
    (enterQuiet s).pending = s.pending ∧ (enterQuiet s).lines = s.lines ∧ (enterQuiet s).start = s.start ∧
      (enterQuiet s).config = s.config ∧ (enterQuiet s).link = s.link ∧ (enterQuiet s).peers = s.peers ∧
      (enterQuiet s).milk = s.milk ∧ (enterQuiet s).air = s.air ∧ (enterQuiet s).fill = s.fill ∧
      (enterQuiet s).knife = s.knife ∧ (enterQuiet s).queue = s.queue ∧ (enterQuiet s).press = s.press ∧
      (enterQuiet s).alerts = s.alerts ∧ (enterQuiet s).port = s.port ∧ (enterQuiet s).free = s.free := by
  simp only [enterQuiet]
  (repeat' split) <;> simp

@[simp] theorem endMix_frame (s : State) :
    (endMix s).pending = s.pending ∧ (endMix s).lines = s.lines ∧ (endMix s).start = s.start ∧
      (endMix s).config = s.config ∧ (endMix s).link = s.link ∧ (endMix s).peers = s.peers ∧
      (endMix s).milk = s.milk ∧ (endMix s).air = s.air ∧ (endMix s).fill = s.fill ∧ (endMix s).queue = s.queue ∧
      (endMix s).press = s.press ∧ (endMix s).alerts = s.alerts ∧ (endMix s).port = s.port ∧
      (endMix s).free = s.free := by
  simp only [endMix]
  (repeat' split) <;> simp

@[simp] theorem checkMixEnd_frame (r : Recipe) (s : State) :
    (checkMixEnd r s).pending = s.pending ∧ (checkMixEnd r s).lines = s.lines ∧ (checkMixEnd r s).start = s.start ∧
      (checkMixEnd r s).config = s.config ∧ (checkMixEnd r s).link = s.link ∧ (checkMixEnd r s).peers = s.peers ∧
      (checkMixEnd r s).milk = s.milk ∧ (checkMixEnd r s).air = s.air ∧ (checkMixEnd r s).fill = s.fill ∧
      (checkMixEnd r s).queue = s.queue ∧ (checkMixEnd r s).press = s.press ∧ (checkMixEnd r s).alerts = s.alerts ∧
      (checkMixEnd r s).port = s.port ∧ (checkMixEnd r s).free = s.free := by
  simp only [checkMixEnd]
  (repeat' split) <;> simp

@[simp] theorem requestMix_frame (c : RunConfig) (r : Recipe) (s : State) :
    (requestMix c r s).pending = s.pending ∧ (requestMix c r s).lines = s.lines ∧
      (requestMix c r s).start = s.start ∧ (requestMix c r s).config = s.config ∧
      (requestMix c r s).peers = s.peers ∧ (requestMix c r s).air = s.air ∧ (requestMix c r s).press = s.press ∧
      (requestMix c r s).port = s.port ∧ (requestMix c r s).free = s.free := by
  simp only [requestMix]
  (repeat' split) <;> simp

@[simp] theorem enterMix_frame (c : RunConfig) (r : Recipe) (s : State) :
    (enterMix c r s).pending = s.pending ∧ (enterMix c r s).lines = s.lines ∧ (enterMix c r s).start = s.start ∧
      (enterMix c r s).config = s.config ∧ (enterMix c r s).peers = s.peers ∧ (enterMix c r s).air = s.air ∧
      (enterMix c r s).press = s.press ∧ (enterMix c r s).port = s.port ∧ (enterMix c r s).free = s.free := by
  simp only [enterMix]
  (repeat' split) <;> simp

@[simp] theorem setClockSecond_frame (c : RunConfig) (r : Recipe) (s : State) :
    (setClockSecond c r s).pending = s.pending ∧ (setClockSecond c r s).lines = s.lines ∧
      (setClockSecond c r s).start = s.start ∧ (setClockSecond c r s).config = s.config ∧
      (setClockSecond c r s).peers = s.peers ∧ (setClockSecond c r s).air = s.air ∧
      (setClockSecond c r s).press = s.press ∧ (setClockSecond c r s).port = s.port ∧
      (setClockSecond c r s).free = s.free := by
  simp only [setClockSecond]
  (repeat' split) <;> simp

@[simp] theorem detectFlocculation_frame (c : RunConfig) (r : Recipe) (n : Nat) (s : State) :
    (detectFlocculation c r n s).pending = s.pending ∧ (detectFlocculation c r n s).lines = s.lines ∧
      (detectFlocculation c r n s).start = s.start ∧ (detectFlocculation c r n s).config = s.config ∧
      (detectFlocculation c r n s).peers = s.peers ∧ (detectFlocculation c r n s).air = s.air ∧
      (detectFlocculation c r n s).press = s.press ∧ (detectFlocculation c r n s).port = s.port ∧
      (detectFlocculation c r n s).free = s.free := by
  simp only [detectFlocculation]
  (repeat' split) <;> simp

@[simp] theorem takeSlope_frame (c : RunConfig) (r : Recipe) (k n : Nat) (i : Int) (s : State) :
    (takeSlope c r k n i s).pending = s.pending ∧ (takeSlope c r k n i s).lines = s.lines ∧
      (takeSlope c r k n i s).start = s.start ∧ (takeSlope c r k n i s).config = s.config ∧
      (takeSlope c r k n i s).peers = s.peers ∧ (takeSlope c r k n i s).air = s.air ∧
      (takeSlope c r k n i s).press = s.press ∧ (takeSlope c r k n i s).port = s.port ∧
      (takeSlope c r k n i s).free = s.free := by
  simp only [takeSlope]
  (repeat' split) <;> simp

@[simp] theorem takeSample_frame (c : RunConfig) (r : Recipe) (m : Nat) (s : State) :
    (takeSample c r m s).pending = s.pending ∧ (takeSample c r m s).lines = s.lines ∧
      (takeSample c r m s).start = s.start ∧ (takeSample c r m s).config = s.config ∧
      (takeSample c r m s).peers = s.peers ∧ (takeSample c r m s).air = s.air ∧
      (takeSample c r m s).press = s.press ∧ (takeSample c r m s).port = s.port ∧ (takeSample c r m s).free = s.free := by
  simp only [takeSample]
  (repeat' split) <;> simp

@[simp] theorem takeReading_frame (c : RunConfig) (r : Recipe) (x : Raw) (s : State) :
    (takeReading c r x s).pending = s.pending ∧ (takeReading c r x s).lines = s.lines ∧
      (takeReading c r x s).start = s.start ∧ (takeReading c r x s).config = s.config ∧
      (takeReading c r x s).peers = s.peers ∧ (takeReading c r x s).air = s.air ∧
      (takeReading c r x s).press = s.press ∧ (takeReading c r x s).port = s.port ∧
      (takeReading c r x s).free = s.free := by
  simp only [takeReading]
  (repeat' split) <;> simp

@[simp] theorem stopMonitor_frame (s : State) :
    (stopMonitor s).pending = s.pending ∧ (stopMonitor s).lines = s.lines ∧ (stopMonitor s).start = s.start ∧
      (stopMonitor s).config = s.config ∧ (stopMonitor s).link = s.link ∧ (stopMonitor s).peers = s.peers ∧
      (stopMonitor s).milk = s.milk ∧ (stopMonitor s).air = s.air ∧ (stopMonitor s).seq = s.seq ∧
      (stopMonitor s).fill = s.fill ∧ (stopMonitor s).queue = s.queue ∧ (stopMonitor s).press = s.press ∧
      (stopMonitor s).alerts = s.alerts ∧ (stopMonitor s).port = s.port ∧ (stopMonitor s).store = s.store ∧
      (stopMonitor s).free = s.free := by
  simp only [stopMonitor]
  (repeat' split) <;> simp

@[simp] theorem requestStir_frame (c : RunConfig) (r : Recipe) (s : State) :
    (requestStir c r s).pending = s.pending ∧ (requestStir c r s).lines = s.lines ∧
      (requestStir c r s).start = s.start ∧ (requestStir c r s).config = s.config ∧
      (requestStir c r s).peers = s.peers ∧ (requestStir c r s).air = s.air ∧ (requestStir c r s).press = s.press ∧
      (requestStir c r s).port = s.port ∧ (requestStir c r s).free = s.free := by
  simp only [requestStir]
  (repeat' split) <;> simp

@[simp] theorem checkCover_frame (c : RunConfig) (r : Recipe) (s : State) :
    (checkCover c r s).pending = s.pending ∧ (checkCover c r s).lines = s.lines ∧
      (checkCover c r s).start = s.start ∧ (checkCover c r s).config = s.config ∧
      (checkCover c r s).peers = s.peers ∧ (checkCover c r s).air = s.air ∧ (checkCover c r s).press = s.press ∧
      (checkCover c r s).port = s.port ∧ (checkCover c r s).free = s.free := by
  simp only [checkCover]
  (repeat' split) <;> simp

@[simp] theorem endFlow_frame (s : State) :
    (endFlow s).pending = s.pending ∧ (endFlow s).lines = s.lines ∧ (endFlow s).start = s.start ∧
      (endFlow s).config = s.config ∧ (endFlow s).link = s.link ∧ (endFlow s).peers = s.peers ∧
      (endFlow s).air = s.air ∧ (endFlow s).coag = s.coag ∧ (endFlow s).knife = s.knife ∧
      (endFlow s).queue = s.queue ∧ (endFlow s).press = s.press ∧ (endFlow s).alerts = s.alerts ∧
      (endFlow s).port = s.port ∧ (endFlow s).free = s.free := by
  simp only [endFlow]
  (repeat' split) <;> simp

@[simp] theorem checkTarget_frame (r : Recipe) (s : State) :
    (checkTarget r s).pending = s.pending ∧ (checkTarget r s).lines = s.lines ∧ (checkTarget r s).start = s.start ∧
      (checkTarget r s).config = s.config ∧ (checkTarget r s).link = s.link ∧ (checkTarget r s).peers = s.peers ∧
      (checkTarget r s).air = s.air ∧ (checkTarget r s).coag = s.coag ∧ (checkTarget r s).knife = s.knife ∧
      (checkTarget r s).queue = s.queue ∧ (checkTarget r s).press = s.press ∧ (checkTarget r s).alerts = s.alerts ∧
      (checkTarget r s).port = s.port ∧ (checkTarget r s).free = s.free := by
  simp only [checkTarget]
  (repeat' split) <;> simp

@[simp] theorem meterEdge_frame (c : RunConfig) (s : State) :
    (meterEdge c s).pending = s.pending ∧ (meterEdge c s).lines = s.lines ∧ (meterEdge c s).start = s.start ∧
      (meterEdge c s).config = s.config ∧ (meterEdge c s).peers = s.peers ∧ (meterEdge c s).air = s.air ∧
      (meterEdge c s).press = s.press ∧ (meterEdge c s).port = s.port ∧ (meterEdge c s).free = s.free := by
  simp only [meterEdge, withRecipe]
  (repeat' split) <;> simp

@[simp] theorem claimMilk_frame (r : Recipe) (s : State) :
    (claimMilk r s).pending = s.pending ∧ (claimMilk r s).lines = s.lines ∧ (claimMilk r s).start = s.start ∧
      (claimMilk r s).config = s.config ∧ (claimMilk r s).link = s.link ∧ (claimMilk r s).peers = s.peers ∧
      (claimMilk r s).air = s.air ∧ (claimMilk r s).seq = s.seq ∧ (claimMilk r s).coag = s.coag ∧
      (claimMilk r s).knife = s.knife ∧ (claimMilk r s).queue = s.queue ∧ (claimMilk r s).press = s.press ∧
      (claimMilk r s).alerts = s.alerts ∧ (claimMilk r s).port = s.port ∧ (claimMilk r s).store = s.store ∧
      (claimMilk r s).free = s.free := by
  simp only [claimMilk]
  (repeat' split) <;> simp

@[simp] theorem startFill_frame (c : RunConfig) (r : Recipe) (s : State) :
    (startFill c r s).pending = s.pending ∧ (startFill c r s).lines = s.lines ∧ (startFill c r s).start = s.start ∧
      (startFill c r s).config = s.config ∧ (startFill c r s).peers = s.peers ∧ (startFill c r s).air = s.air ∧
      (startFill c r s).press = s.press ∧ (startFill c r s).port = s.port ∧ (startFill c r s).free = s.free := by
  simp only [startFill]
  (repeat' split) <;> simp

@[simp] theorem faultMeter_frame (c : RunConfig) (s : State) :
    (faultMeter c s).pending = s.pending ∧ (faultMeter c s).lines = s.lines ∧ (faultMeter c s).start = s.start ∧
      (faultMeter c s).config = s.config ∧ (faultMeter c s).peers = s.peers ∧ (faultMeter c s).air = s.air ∧
      (faultMeter c s).queue = s.queue ∧ (faultMeter c s).press = s.press ∧ (faultMeter c s).port = s.port ∧
      (faultMeter c s).store = s.store ∧ (faultMeter c s).free = s.free := by
  simp only [faultMeter]
  (repeat' split) <;> simp

@[simp] theorem checkMeterFault_frame (c : RunConfig) (s : State) :
    (checkMeterFault c s).pending = s.pending ∧ (checkMeterFault c s).lines = s.lines ∧
      (checkMeterFault c s).start = s.start ∧ (checkMeterFault c s).config = s.config ∧
      (checkMeterFault c s).peers = s.peers ∧ (checkMeterFault c s).air = s.air ∧
      (checkMeterFault c s).queue = s.queue ∧ (checkMeterFault c s).press = s.press ∧
      (checkMeterFault c s).port = s.port ∧ (checkMeterFault c s).store = s.store ∧
      (checkMeterFault c s).free = s.free := by
  simp only [checkMeterFault]
  (repeat' split) <;> simp

@[simp] theorem checkSlow_frame (c : RunConfig) (r : Recipe) (s : State) :
    (checkSlow c r s).pending = s.pending ∧ (checkSlow c r s).lines = s.lines ∧ (checkSlow c r s).start = s.start ∧
      (checkSlow c r s).config = s.config ∧ (checkSlow c r s).peers = s.peers ∧ (checkSlow c r s).air = s.air ∧
      (checkSlow c r s).queue = s.queue ∧ (checkSlow c r s).press = s.press ∧ (checkSlow c r s).port = s.port ∧
      (checkSlow c r s).store = s.store ∧ (checkSlow c r s).free = s.free := by
  simp only [checkSlow]
  (repeat' split) <;> simp

@[simp] theorem advanceFlow_frame (c : RunConfig) (r : Recipe) (s : State) :
    (advanceFlow c r s).pending = s.pending ∧ (advanceFlow c r s).lines = s.lines ∧
      (advanceFlow c r s).start = s.start ∧ (advanceFlow c r s).config = s.config ∧
      (advanceFlow c r s).peers = s.peers ∧ (advanceFlow c r s).air = s.air ∧ (advanceFlow c r s).queue = s.queue ∧
      (advanceFlow c r s).press = s.press ∧ (advanceFlow c r s).port = s.port ∧
      (advanceFlow c r s).store = s.store ∧ (advanceFlow c r s).free = s.free := by
  simp only [advanceFlow]
  (repeat' split) <;> simp

@[simp] theorem endSettle_frame (r : Recipe) (s : State) :
    (endSettle r s).pending = s.pending ∧ (endSettle r s).lines = s.lines ∧ (endSettle r s).start = s.start ∧
      (endSettle r s).config = s.config ∧ (endSettle r s).link = s.link ∧ (endSettle r s).peers = s.peers ∧
      (endSettle r s).milk = s.milk ∧ (endSettle r s).air = s.air ∧ (endSettle r s).coag = s.coag ∧
      (endSettle r s).knife = s.knife ∧ (endSettle r s).queue = s.queue ∧ (endSettle r s).press = s.press ∧
      (endSettle r s).alerts = s.alerts ∧ (endSettle r s).port = s.port ∧ (endSettle r s).free = s.free := by
  simp only [endSettle]
  (repeat' split) <;> simp

@[simp] theorem checkSettle_frame (r : Recipe) (s : State) :
    (checkSettle r s).pending = s.pending ∧ (checkSettle r s).lines = s.lines ∧ (checkSettle r s).start = s.start ∧
      (checkSettle r s).config = s.config ∧ (checkSettle r s).link = s.link ∧ (checkSettle r s).peers = s.peers ∧
      (checkSettle r s).milk = s.milk ∧ (checkSettle r s).air = s.air ∧ (checkSettle r s).coag = s.coag ∧
      (checkSettle r s).knife = s.knife ∧ (checkSettle r s).queue = s.queue ∧ (checkSettle r s).press = s.press ∧
      (checkSettle r s).alerts = s.alerts ∧ (checkSettle r s).port = s.port ∧ (checkSettle r s).free = s.free := by
  simp only [checkSettle]
  (repeat' split) <;> simp

@[simp] theorem endDose_frame (c : RunConfig) (r : Recipe) (s : State) :
    (endDose c r s).pending = s.pending ∧ (endDose c r s).lines = s.lines ∧ (endDose c r s).start = s.start ∧
      (endDose c r s).config = s.config ∧ (endDose c r s).peers = s.peers ∧ (endDose c r s).air = s.air ∧
      (endDose c r s).press = s.press ∧ (endDose c r s).port = s.port ∧ (endDose c r s).free = s.free := by
  simp only [endDose]
  (repeat' split) <;> simp

@[simp] theorem checkDose_frame (c : RunConfig) (r : Recipe) (s : State) :
    (checkDose c r s).pending = s.pending ∧ (checkDose c r s).lines = s.lines ∧ (checkDose c r s).start = s.start ∧
      (checkDose c r s).config = s.config ∧ (checkDose c r s).peers = s.peers ∧ (checkDose c r s).air = s.air ∧
      (checkDose c r s).press = s.press ∧ (checkDose c r s).port = s.port ∧ (checkDose c r s).free = s.free := by
  simp only [checkDose]
  (repeat' split) <;> simp

@[simp] theorem phaseSecond_frame (c : RunConfig) (r : Recipe) (s : State) :
    (phaseSecond c r s).pending = s.pending ∧ (phaseSecond c r s).lines = s.lines ∧
      (phaseSecond c r s).start = s.start ∧ (phaseSecond c r s).config = s.config ∧
      (phaseSecond c r s).peers = s.peers ∧ (phaseSecond c r s).air = s.air ∧ (phaseSecond c r s).press = s.press ∧
      (phaseSecond c r s).port = s.port ∧ (phaseSecond c r s).free = s.free := by
  simp only [phaseSecond]
  (repeat' split) <;> simp

@[simp] theorem fillSecond_frame (c : RunConfig) (s : State) :
    (fillSecond c s).pending = s.pending ∧ (fillSecond c s).lines = s.lines ∧ (fillSecond c s).start = s.start ∧
      (fillSecond c s).config = s.config ∧ (fillSecond c s).peers = s.peers ∧ (fillSecond c s).air = s.air ∧
      (fillSecond c s).press = s.press ∧ (fillSecond c s).port = s.port ∧ (fillSecond c s).free = s.free := by
  simp only [fillSecond, withRecipe]
  (repeat' split) <;> simp

@[simp] theorem stopFill_frame (s : State) :
    (stopFill s).pending = s.pending ∧ (stopFill s).lines = s.lines ∧ (stopFill s).start = s.start ∧
      (stopFill s).config = s.config ∧ (stopFill s).link = s.link ∧ (stopFill s).peers = s.peers ∧
      (stopFill s).air = s.air ∧ (stopFill s).seq = s.seq ∧ (stopFill s).coag = s.coag ∧
      (stopFill s).queue = s.queue ∧ (stopFill s).press = s.press ∧ (stopFill s).alerts = s.alerts ∧
      (stopFill s).port = s.port ∧ (stopFill s).store = s.store ∧ (stopFill s).free = s.free := by
  simp only [stopFill]
  (repeat' split) <;> simp

@[simp] theorem releaseFilling_frame (c : RunConfig) (r : Recipe) (s : State) :
    (releaseFilling c r s).pending = s.pending ∧ (releaseFilling c r s).lines = s.lines ∧
      (releaseFilling c r s).start = s.start ∧ (releaseFilling c r s).config = s.config ∧
      (releaseFilling c r s).peers = s.peers ∧ (releaseFilling c r s).air = s.air ∧
      (releaseFilling c r s).press = s.press ∧ (releaseFilling c r s).port = s.port ∧
      (releaseFilling c r s).free = s.free := by
  simp only [releaseFilling]
  (repeat' split) <;> simp

@[simp] theorem releaseSetting_frame (c : RunConfig) (r : Recipe) (s : State) :
    (releaseSetting c r s).pending = s.pending ∧ (releaseSetting c r s).lines = s.lines ∧
      (releaseSetting c r s).start = s.start ∧ (releaseSetting c r s).config = s.config ∧
      (releaseSetting c r s).peers = s.peers ∧ (releaseSetting c r s).air = s.air ∧
      (releaseSetting c r s).press = s.press ∧ (releaseSetting c r s).port = s.port ∧
      (releaseSetting c r s).free = s.free := by
  simp only [releaseSetting]
  (repeat' split) <;> simp

@[simp] theorem release_frame (c : RunConfig) (s : State) :
    (release c s).pending = s.pending ∧ (release c s).lines = s.lines ∧ (release c s).start = s.start ∧
      (release c s).config = s.config ∧ (release c s).peers = s.peers ∧ (release c s).air = s.air ∧
      (release c s).press = s.press ∧ (release c s).port = s.port ∧ (release c s).free = s.free := by
  simp only [release, withRecipe]
  (repeat' split) <;> simp

@[simp] theorem setHold_frame (c : RunConfig) (h : HoldSet) (s : State) :
    (setHold c h s).pending = s.pending ∧ (setHold c h s).lines = s.lines ∧ (setHold c h s).start = s.start ∧
      (setHold c h s).config = s.config ∧ (setHold c h s).peers = s.peers ∧ (setHold c h s).air = s.air ∧
      (setHold c h s).press = s.press ∧ (setHold c h s).port = s.port ∧ (setHold c h s).free = s.free := by
  simp only [setHold]
  (repeat' split) <;> simp

@[simp] theorem presentAir_frame (c : RunConfig) (s : State) :
    (presentAir c s).pending = s.pending ∧ (presentAir c s).lines = s.lines ∧ (presentAir c s).start = s.start ∧
      (presentAir c s).config = s.config ∧ (presentAir c s).link = s.link ∧ (presentAir c s).peers = s.peers ∧
      (presentAir c s).milk = s.milk ∧ (presentAir c s).seq = s.seq ∧ (presentAir c s).fill = s.fill ∧
      (presentAir c s).coag = s.coag ∧ (presentAir c s).knife = s.knife ∧ (presentAir c s).queue = s.queue ∧
      (presentAir c s).alerts = s.alerts ∧ (presentAir c s).port = s.port ∧ (presentAir c s).store = s.store ∧
      (presentAir c s).free = s.free := by
  simp only [presentAir]
  (repeat' split) <;> simp

@[simp] theorem closePress_frame (c : RunConfig) (b s : State) :
    (closePress c b s).pending = s.pending ∧ (closePress c b s).lines = s.lines ∧
      (closePress c b s).start = s.start ∧ (closePress c b s).config = s.config ∧
      (closePress c b s).link = s.link ∧ (closePress c b s).peers = s.peers ∧ (closePress c b s).milk = s.milk ∧
      (closePress c b s).seq = s.seq ∧ (closePress c b s).fill = s.fill ∧ (closePress c b s).coag = s.coag ∧
      (closePress c b s).knife = s.knife ∧ (closePress c b s).queue = s.queue ∧
      (closePress c b s).alerts = s.alerts ∧ (closePress c b s).port = s.port ∧
      (closePress c b s).store = s.store ∧ (closePress c b s).free = s.free := by
  simp only [closePress]
  split <;> simp [eachHead]

@[simp] theorem writeHeadRecord_frame (h : HeadNo) (s : State) :
    (writeHeadRecord h s).pending = s.pending ∧ (writeHeadRecord h s).lines = s.lines ∧
      (writeHeadRecord h s).start = s.start ∧ (writeHeadRecord h s).config = s.config ∧
      (writeHeadRecord h s).link = s.link ∧ (writeHeadRecord h s).peers = s.peers ∧
      (writeHeadRecord h s).milk = s.milk ∧ (writeHeadRecord h s).air = s.air ∧ (writeHeadRecord h s).seq = s.seq ∧
      (writeHeadRecord h s).fill = s.fill ∧ (writeHeadRecord h s).coag = s.coag ∧
      (writeHeadRecord h s).knife = s.knife ∧ (writeHeadRecord h s).queue = s.queue ∧
      (writeHeadRecord h s).press = s.press ∧ (writeHeadRecord h s).alerts = s.alerts ∧
      (writeHeadRecord h s).port = s.port ∧ (writeHeadRecord h s).free = s.free := by
  simp only [writeHeadRecord]
  (repeat' split) <;> simp

@[simp] theorem assignOne_frame (c : RunConfig) (s : State) :
    (assignOne c s).pending = s.pending ∧ (assignOne c s).lines = s.lines ∧ (assignOne c s).start = s.start ∧
      (assignOne c s).config = s.config ∧ (assignOne c s).link = s.link ∧ (assignOne c s).peers = s.peers ∧
      (assignOne c s).milk = s.milk ∧ (assignOne c s).air = s.air ∧ (assignOne c s).seq = s.seq ∧
      (assignOne c s).fill = s.fill ∧ (assignOne c s).coag = s.coag ∧ (assignOne c s).knife = s.knife ∧
      (assignOne c s).alerts = s.alerts ∧ (assignOne c s).port = s.port ∧ (assignOne c s).free = s.free := by
  simp only [assignOne]
  (repeat' split) <;> simp

@[simp] theorem assign_frame (c : RunConfig) (s : State) :
    (assign c s).pending = s.pending ∧ (assign c s).lines = s.lines ∧ (assign c s).start = s.start ∧
      (assign c s).config = s.config ∧ (assign c s).link = s.link ∧ (assign c s).peers = s.peers ∧
      (assign c s).milk = s.milk ∧ (assign c s).air = s.air ∧ (assign c s).seq = s.seq ∧
      (assign c s).fill = s.fill ∧ (assign c s).coag = s.coag ∧ (assign c s).knife = s.knife ∧
      (assign c s).alerts = s.alerts ∧ (assign c s).port = s.port ∧ (assign c s).free = s.free := by
  simp only [assign]
  (repeat' split) <;> simp

@[simp] theorem detectUnder_frame (c : RunConfig) (h : HeadNo) (s : State) :
    (detectUnder c h s).pending = s.pending ∧ (detectUnder c h s).lines = s.lines ∧
      (detectUnder c h s).start = s.start ∧ (detectUnder c h s).config = s.config ∧
      (detectUnder c h s).peers = s.peers ∧ (detectUnder c h s).air = s.air ∧ (detectUnder c h s).queue = s.queue ∧
      (detectUnder c h s).port = s.port ∧ (detectUnder c h s).free = s.free := by
  simp only [detectUnder]
  (repeat' split) <;> simp

@[simp] theorem checkUnder_frame (c : RunConfig) (h : HeadNo) (s : State) :
    (checkUnder c h s).pending = s.pending ∧ (checkUnder c h s).lines = s.lines ∧
      (checkUnder c h s).start = s.start ∧ (checkUnder c h s).config = s.config ∧
      (checkUnder c h s).peers = s.peers ∧ (checkUnder c h s).air = s.air ∧ (checkUnder c h s).queue = s.queue ∧
      (checkUnder c h s).port = s.port ∧ (checkUnder c h s).free = s.free := by
  simp only [checkUnder]
  (repeat' split) <;> simp

@[simp] theorem sampleHead_frame (c : RunConfig) (r : Four Raw) (h : HeadNo) (s : State) :
    (sampleHead c r h s).pending = s.pending ∧ (sampleHead c r h s).lines = s.lines ∧
      (sampleHead c r h s).start = s.start ∧ (sampleHead c r h s).config = s.config ∧
      (sampleHead c r h s).peers = s.peers ∧ (sampleHead c r h s).air = s.air ∧
      (sampleHead c r h s).queue = s.queue ∧ (sampleHead c r h s).port = s.port ∧ (sampleHead c r h s).free = s.free := by
  simp only [sampleHead]
  (repeat' split) <;> simp

@[simp] theorem driveSample_frame (c : RunConfig) (r : Four Raw) (s : State) :
    (driveSample c r s).pending = s.pending ∧ (driveSample c r s).lines = s.lines ∧
      (driveSample c r s).start = s.start ∧ (driveSample c r s).config = s.config ∧
      (driveSample c r s).peers = s.peers ∧ (driveSample c r s).air = s.air ∧ (driveSample c r s).queue = s.queue ∧
      (driveSample c r s).port = s.port ∧ (driveSample c r s).free = s.free := by
  simp only [driveSample, eachHead]
  (repeat' split) <;> simp

@[simp] theorem stepHead_frame (c : RunConfig) (l : List HeadNo) (h : HeadNo) (s : State) :
    (stepHead c l h s).pending = s.pending ∧ (stepHead c l h s).lines = s.lines ∧
      (stepHead c l h s).start = s.start ∧ (stepHead c l h s).config = s.config ∧
      (stepHead c l h s).link = s.link ∧ (stepHead c l h s).peers = s.peers ∧ (stepHead c l h s).milk = s.milk ∧
      (stepHead c l h s).air = s.air ∧ (stepHead c l h s).seq = s.seq ∧ (stepHead c l h s).fill = s.fill ∧
      (stepHead c l h s).coag = s.coag ∧ (stepHead c l h s).knife = s.knife ∧ (stepHead c l h s).queue = s.queue ∧
      (stepHead c l h s).alerts = s.alerts ∧ (stepHead c l h s).port = s.port ∧
      (stepHead c l h s).store = s.store ∧ (stepHead c l h s).free = s.free := by
  simp only [stepHead]
  (repeat' split) <;> simp

@[simp] theorem pressSecond_frame (c : RunConfig) (r : Four Raw) (s : State) :
    (pressSecond c r s).pending = s.pending ∧ (pressSecond c r s).lines = s.lines ∧
      (pressSecond c r s).start = s.start ∧ (pressSecond c r s).config = s.config ∧
      (pressSecond c r s).peers = s.peers ∧ (pressSecond c r s).air = s.air ∧ (pressSecond c r s).queue = s.queue ∧
      (pressSecond c r s).port = s.port ∧ (pressSecond c r s).free = s.free := by
  simp only [pressSecond, eachHead]
  (repeat' split) <;> simp

@[simp] theorem unloadHead_frame (c : RunConfig) (h : HeadNo) (s : State) :
    (unloadHead c h s).pending = s.pending ∧ (unloadHead c h s).lines = s.lines ∧
      (unloadHead c h s).start = s.start ∧ (unloadHead c h s).config = s.config ∧
      (unloadHead c h s).peers = s.peers ∧ (unloadHead c h s).air = s.air ∧ (unloadHead c h s).port = s.port ∧
      (unloadHead c h s).free = s.free := by
  simp only [unloadHead]
  (repeat' split) <;> simp

@[simp] theorem clearHead_frame (c : RunConfig) (h : HeadNo) (s : State) :
    (clearHead c h s).pending = s.pending ∧ (clearHead c h s).lines = s.lines ∧ (clearHead c h s).start = s.start ∧
      (clearHead c h s).config = s.config ∧ (clearHead c h s).link = s.link ∧ (clearHead c h s).peers = s.peers ∧
      (clearHead c h s).milk = s.milk ∧ (clearHead c h s).air = s.air ∧ (clearHead c h s).seq = s.seq ∧
      (clearHead c h s).fill = s.fill ∧ (clearHead c h s).coag = s.coag ∧ (clearHead c h s).knife = s.knife ∧
      (clearHead c h s).alerts = s.alerts ∧ (clearHead c h s).port = s.port ∧ (clearHead c h s).free = s.free := by
  simp only [clearHead]
  (repeat' split) <;> simp

@[simp] theorem ventUnderGuard_frame (c : RunConfig) (s : State) :
    (ventUnderGuard c s).pending = s.pending ∧ (ventUnderGuard c s).lines = s.lines ∧
      (ventUnderGuard c s).start = s.start ∧ (ventUnderGuard c s).config = s.config ∧
      (ventUnderGuard c s).peers = s.peers ∧ (ventUnderGuard c s).air = s.air ∧
      (ventUnderGuard c s).queue = s.queue ∧ (ventUnderGuard c s).port = s.port ∧
      (ventUnderGuard c s).store = s.store ∧ (ventUnderGuard c s).free = s.free := by
  simp only [ventUnderGuard]
  (repeat' split) <;> simp

@[simp] theorem estopHeads_frame (s : State) :
    (estopHeads s).pending = s.pending ∧ (estopHeads s).lines = s.lines ∧ (estopHeads s).start = s.start ∧
      (estopHeads s).config = s.config ∧ (estopHeads s).link = s.link ∧ (estopHeads s).peers = s.peers ∧
      (estopHeads s).milk = s.milk ∧ (estopHeads s).air = s.air ∧ (estopHeads s).seq = s.seq ∧
      (estopHeads s).fill = s.fill ∧ (estopHeads s).coag = s.coag ∧ (estopHeads s).knife = s.knife ∧
      (estopHeads s).queue = s.queue ∧ (estopHeads s).alerts = s.alerts ∧ (estopHeads s).port = s.port ∧
      (estopHeads s).store = s.store ∧ (estopHeads s).free = s.free := by
  simp only [estopHeads]
  (repeat' split) <;> simp

@[simp] theorem makeLoad_frame (b : BatchRecord) (s : State) :
    (makeLoad b s).pending = s.pending ∧ (makeLoad b s).lines = s.lines ∧ (makeLoad b s).start = s.start ∧
      (makeLoad b s).config = s.config ∧ (makeLoad b s).link = s.link ∧ (makeLoad b s).peers = s.peers ∧
      (makeLoad b s).milk = s.milk ∧ (makeLoad b s).air = s.air ∧ (makeLoad b s).fill = s.fill ∧
      (makeLoad b s).coag = s.coag ∧ (makeLoad b s).knife = s.knife ∧ (makeLoad b s).press = s.press ∧
      (makeLoad b s).alerts = s.alerts ∧ (makeLoad b s).port = s.port ∧ (makeLoad b s).free = s.free := by
  simp only [makeLoad]
  (repeat' split) <;> simp

@[simp] theorem countUntracked_frame (c : RunConfig) (b : BatchRecord) (s : State) :
    (countUntracked c b s).pending = s.pending ∧ (countUntracked c b s).lines = s.lines ∧
      (countUntracked c b s).start = s.start ∧ (countUntracked c b s).config = s.config ∧
      (countUntracked c b s).peers = s.peers ∧ (countUntracked c b s).air = s.air ∧
      (countUntracked c b s).queue = s.queue ∧ (countUntracked c b s).press = s.press ∧
      (countUntracked c b s).port = s.port ∧ (countUntracked c b s).free = s.free := by
  simp only [countUntracked]
  (repeat' split) <;> simp

@[simp] theorem loadDone_frame (c : RunConfig) (s : State) :
    (loadDone c s).pending = s.pending ∧ (loadDone c s).lines = s.lines ∧ (loadDone c s).start = s.start ∧
      (loadDone c s).config = s.config ∧ (loadDone c s).peers = s.peers ∧ (loadDone c s).air = s.air ∧
      (loadDone c s).port = s.port ∧ (loadDone c s).free = s.free := by
  simp only [loadDone]
  (repeat' split) <;> simp

@[simp] theorem lateLoad_frame (c : RunConfig) (n : Nat) (s : State) :
    (lateLoad c n s).pending = s.pending ∧ (lateLoad c n s).lines = s.lines ∧ (lateLoad c n s).start = s.start ∧
      (lateLoad c n s).config = s.config ∧ (lateLoad c n s).peers = s.peers ∧ (lateLoad c n s).air = s.air ∧
      (lateLoad c n s).press = s.press ∧ (lateLoad c n s).port = s.port ∧ (lateLoad c n s).store = s.store ∧
      (lateLoad c n s).free = s.free := by
  simp only [lateLoad]
  (repeat' split) <;> simp

@[simp] theorem openBatch_frame (c : RunConfig) (n : Nat) (r : Recipe) (s : State) :
    (openBatch c n r s).pending = s.pending ∧ (openBatch c n r s).lines = s.lines ∧
      (openBatch c n r s).start = s.start ∧ (openBatch c n r s).config = s.config ∧
      (openBatch c n r s).peers = s.peers ∧ (openBatch c n r s).air = s.air ∧ (openBatch c n r s).press = s.press ∧
      (openBatch c n r s).port = s.port ∧ (openBatch c n r s).free = s.free := by
  simp only [openBatch]
  (repeat' split) <;> simp

@[simp] theorem startOrder_frame (c : RunConfig) (n : Nat) (s : State) :
    (startOrder c n s).1.pending = s.pending ∧ (startOrder c n s).1.lines = s.lines ∧
      (startOrder c n s).1.start = s.start ∧ (startOrder c n s).1.config = s.config ∧
      (startOrder c n s).1.peers = s.peers ∧ (startOrder c n s).1.air = s.air ∧
      (startOrder c n s).1.press = s.press ∧ (startOrder c n s).1.port = s.port ∧ (startOrder c n s).1.free = s.free := by
  simp only [startOrder]
  (repeat' split) <;> simp

@[simp] theorem holdOrder_frame (s : State) :
    (holdOrder s).1.pending = s.pending ∧ (holdOrder s).1.lines = s.lines ∧ (holdOrder s).1.start = s.start ∧
      (holdOrder s).1.config = s.config ∧ (holdOrder s).1.link = s.link ∧ (holdOrder s).1.peers = s.peers ∧
      (holdOrder s).1.air = s.air ∧ (holdOrder s).1.queue = s.queue ∧ (holdOrder s).1.press = s.press ∧
      (holdOrder s).1.alerts = s.alerts ∧ (holdOrder s).1.port = s.port ∧ (holdOrder s).1.store = s.store ∧
      (holdOrder s).1.free = s.free := by
  simp only [holdOrder]
  (repeat' split) <;> simp

@[simp] theorem resumeOrder_frame (c : RunConfig) (s : State) :
    (resumeOrder c s).1.pending = s.pending ∧ (resumeOrder c s).1.lines = s.lines ∧
      (resumeOrder c s).1.start = s.start ∧ (resumeOrder c s).1.config = s.config ∧
      (resumeOrder c s).1.peers = s.peers ∧ (resumeOrder c s).1.air = s.air ∧ (resumeOrder c s).1.press = s.press ∧
      (resumeOrder c s).1.port = s.port ∧ (resumeOrder c s).1.free = s.free := by
  simp only [resumeOrder]
  (repeat' split) <;> simp

@[simp] theorem stopVat_frame (o : BatchOutcome) (s : State) :
    (stopVat o s).pending = s.pending ∧ (stopVat o s).lines = s.lines ∧ (stopVat o s).start = s.start ∧
      (stopVat o s).config = s.config ∧ (stopVat o s).peers = s.peers ∧ (stopVat o s).air = s.air ∧
      (stopVat o s).queue = s.queue ∧ (stopVat o s).press = s.press ∧ (stopVat o s).alerts = s.alerts ∧
      (stopVat o s).port = s.port ∧ (stopVat o s).free = s.free := by
  simp only [stopVat]
  (repeat' split) <;> simp

@[simp] theorem abortOrder_frame (s : State) :
    (abortOrder s).1.pending = s.pending ∧ (abortOrder s).1.lines = s.lines ∧ (abortOrder s).1.start = s.start ∧
      (abortOrder s).1.config = s.config ∧ (abortOrder s).1.peers = s.peers ∧ (abortOrder s).1.air = s.air ∧
      (abortOrder s).1.queue = s.queue ∧ (abortOrder s).1.press = s.press ∧ (abortOrder s).1.alerts = s.alerts ∧
      (abortOrder s).1.port = s.port ∧ (abortOrder s).1.free = s.free := by
  simp only [abortOrder]
  (repeat' split) <;> simp

@[simp] theorem cutNow_frame (c : RunConfig) (r : Recipe) (s : State) :
    (cutNow c r s).pending = s.pending ∧ (cutNow c r s).lines = s.lines ∧ (cutNow c r s).start = s.start ∧
      (cutNow c r s).config = s.config ∧ (cutNow c r s).peers = s.peers ∧ (cutNow c r s).air = s.air ∧
      (cutNow c r s).press = s.press ∧ (cutNow c r s).port = s.port ∧ (cutNow c r s).free = s.free := by
  simp only [cutNow]
  (repeat' split) <;> simp

@[simp] theorem cutNowOrder_frame (c : RunConfig) (s : State) :
    (cutNowOrder c s).1.pending = s.pending ∧ (cutNowOrder c s).1.lines = s.lines ∧
      (cutNowOrder c s).1.start = s.start ∧ (cutNowOrder c s).1.config = s.config ∧
      (cutNowOrder c s).1.peers = s.peers ∧ (cutNowOrder c s).1.air = s.air ∧ (cutNowOrder c s).1.press = s.press ∧
      (cutNowOrder c s).1.port = s.port ∧ (cutNowOrder c s).1.free = s.free := by
  simp only [cutNowOrder, withRecipe]
  (repeat' split) <;> simp

@[simp] theorem clearOrder_frame (s : State) :
    (clearOrder s).1.pending = s.pending ∧ (clearOrder s).1.lines = s.lines ∧ (clearOrder s).1.start = s.start ∧
      (clearOrder s).1.config = s.config ∧ (clearOrder s).1.link = s.link ∧ (clearOrder s).1.peers = s.peers ∧
      (clearOrder s).1.milk = s.milk ∧ (clearOrder s).1.air = s.air ∧ (clearOrder s).1.fill = s.fill ∧
      (clearOrder s).1.coag = s.coag ∧ (clearOrder s).1.knife = s.knife ∧ (clearOrder s).1.queue = s.queue ∧
      (clearOrder s).1.press = s.press ∧ (clearOrder s).1.alerts = s.alerts ∧ (clearOrder s).1.port = s.port ∧
      (clearOrder s).1.free = s.free := by
  simp only [clearOrder]
  (repeat' split) <;> simp

@[simp] theorem ackOrder_frame (n : Nat) (s : State) :
    (ackOrder n s).1.pending = s.pending ∧ (ackOrder n s).1.lines = s.lines ∧ (ackOrder n s).1.start = s.start ∧
      (ackOrder n s).1.config = s.config ∧ (ackOrder n s).1.link = s.link ∧ (ackOrder n s).1.peers = s.peers ∧
      (ackOrder n s).1.milk = s.milk ∧ (ackOrder n s).1.air = s.air ∧ (ackOrder n s).1.seq = s.seq ∧
      (ackOrder n s).1.fill = s.fill ∧ (ackOrder n s).1.coag = s.coag ∧ (ackOrder n s).1.knife = s.knife ∧
      (ackOrder n s).1.queue = s.queue ∧ (ackOrder n s).1.press = s.press ∧ (ackOrder n s).1.port = s.port ∧
      (ackOrder n s).1.store = s.store ∧ (ackOrder n s).1.free = s.free := by
  simp only [ackOrder]
  (repeat' split) <;> simp

@[simp] theorem startEdge_frame (c : RunConfig) (s : State) :
    (startEdge c s).pending = s.pending ∧ (startEdge c s).lines = s.lines ∧ (startEdge c s).start = s.start ∧
      (startEdge c s).config = s.config ∧ (startEdge c s).peers = s.peers ∧ (startEdge c s).air = s.air ∧
      (startEdge c s).press = s.press ∧ (startEdge c s).port = s.port ∧ (startEdge c s).free = s.free := by
  simp only [startEdge]
  (repeat' split) <;> simp

@[simp] theorem estopRises_frame (c : RunConfig) (s : State) :
    (estopRises c s).pending = s.pending ∧ (estopRises c s).lines = s.lines ∧ (estopRises c s).start = s.start ∧
      (estopRises c s).config = s.config ∧ (estopRises c s).peers = s.peers ∧ (estopRises c s).air = s.air ∧
      (estopRises c s).queue = s.queue ∧ (estopRises c s).port = s.port ∧ (estopRises c s).free = s.free := by
  simp only [estopRises]
  (repeat' split) <;> simp

@[simp] theorem changePeers_frame (c : RunConfig) (n : Nat) (t : PeerTable) (s : State) :
    (changePeers c n t s).pending = s.pending ∧ (changePeers c n t s).lines = s.lines ∧
      (changePeers c n t s).start = s.start ∧ (changePeers c n t s).config = s.config ∧
      (changePeers c n t s).link = s.link ∧ (changePeers c n t s).seq = s.seq ∧
      (changePeers c n t s).coag = s.coag ∧ (changePeers c n t s).knife = s.knife ∧
      (changePeers c n t s).queue = s.queue ∧ (changePeers c n t s).alerts = s.alerts ∧
      (changePeers c n t s).port = s.port ∧ (changePeers c n t s).store = s.store ∧
      (changePeers c n t s).free = s.free := by
  simp only [changePeers, triggerPool]
  (repeat' split) <;> simp

@[simp] theorem takeFrame_frame (c : RunConfig) (f : RxFrame) (s : State) :
    (takeFrame c f s).pending = s.pending ∧ (takeFrame c f s).lines = s.lines ∧ (takeFrame c f s).start = s.start ∧
      (takeFrame c f s).config = s.config ∧ (takeFrame c f s).link = s.link ∧ (takeFrame c f s).seq = s.seq ∧
      (takeFrame c f s).coag = s.coag ∧ (takeFrame c f s).knife = s.knife ∧ (takeFrame c f s).queue = s.queue ∧
      (takeFrame c f s).alerts = s.alerts ∧ (takeFrame c f s).port = s.port ∧ (takeFrame c f s).store = s.store ∧
      (takeFrame c f s).free = s.free := by
  simp only [takeFrame]
  (repeat' split) <;> simp

@[simp] theorem timeOutPeer_frame (c : RunConfig) (n : Nat) (s : State) :
    (timeOutPeer c n s).pending = s.pending ∧ (timeOutPeer c n s).lines = s.lines ∧
      (timeOutPeer c n s).start = s.start ∧ (timeOutPeer c n s).config = s.config ∧
      (timeOutPeer c n s).link = s.link ∧ (timeOutPeer c n s).seq = s.seq ∧ (timeOutPeer c n s).coag = s.coag ∧
      (timeOutPeer c n s).knife = s.knife ∧ (timeOutPeer c n s).queue = s.queue ∧
      (timeOutPeer c n s).alerts = s.alerts ∧ (timeOutPeer c n s).port = s.port ∧
      (timeOutPeer c n s).store = s.store ∧ (timeOutPeer c n s).free = s.free := by
  simp only [timeOutPeer]
  (repeat' split) <;> simp

@[simp] theorem removePeer_frame (c : RunConfig) (n : Nat) (s : State) :
    (removePeer c n s).pending = s.pending ∧ (removePeer c n s).lines = s.lines ∧
      (removePeer c n s).start = s.start ∧ (removePeer c n s).config = s.config ∧
      (removePeer c n s).link = s.link ∧ (removePeer c n s).seq = s.seq ∧ (removePeer c n s).coag = s.coag ∧
      (removePeer c n s).knife = s.knife ∧ (removePeer c n s).queue = s.queue ∧
      (removePeer c n s).alerts = s.alerts ∧ (removePeer c n s).port = s.port ∧
      (removePeer c n s).store = s.store ∧ (removePeer c n s).free = s.free := by
  simp only [removePeer]
  (repeat' split) <;> simp

@[simp] theorem checkTally_frame (c : RunConfig) (s : State) :
    (checkTally c s).pending = s.pending ∧ (checkTally c s).lines = s.lines ∧ (checkTally c s).start = s.start ∧
      (checkTally c s).config = s.config ∧ (checkTally c s).peers = s.peers ∧ (checkTally c s).air = s.air ∧
      (checkTally c s).queue = s.queue ∧ (checkTally c s).press = s.press ∧ (checkTally c s).port = s.port ∧
      (checkTally c s).store = s.store ∧ (checkTally c s).free = s.free := by
  simp only [checkTally]
  (repeat' split) <;> simp

@[simp] theorem countError_frame (c : RunConfig) (e : LinkError) (s : State) :
    (countError c e s).pending = s.pending ∧ (countError c e s).lines = s.lines ∧
      (countError c e s).start = s.start ∧ (countError c e s).config = s.config ∧
      (countError c e s).peers = s.peers ∧ (countError c e s).air = s.air ∧ (countError c e s).queue = s.queue ∧
      (countError c e s).press = s.press ∧ (countError c e s).port = s.port ∧ (countError c e s).store = s.store ∧
      (countError c e s).free = s.free := by
  simp only [countError]
  (repeat' split) <;> simp

@[simp] theorem clash_frame (c : RunConfig) (k : Nat) (s : State) :
    (clash c k s).pending = s.pending ∧ (clash c k s).lines = s.lines ∧ (clash c k s).config = s.config ∧
      (clash c k s).peers = s.peers ∧ (clash c k s).queue = s.queue ∧ (clash c k s).port = s.port ∧
      (clash c k s).store = s.store ∧ (clash c k s).free = s.free := by
  simp only [clash]
  (repeat' split) <;> simp

@[simp] theorem updateCauses_frame (s : State) :
    (updateCauses s).pending = s.pending ∧ (updateCauses s).lines = s.lines ∧ (updateCauses s).config = s.config ∧
      (updateCauses s).link = s.link ∧ (updateCauses s).peers = s.peers ∧ (updateCauses s).milk = s.milk ∧
      (updateCauses s).air = s.air ∧ (updateCauses s).seq = s.seq ∧ (updateCauses s).fill = s.fill ∧
      (updateCauses s).coag = s.coag ∧ (updateCauses s).knife = s.knife ∧ (updateCauses s).queue = s.queue ∧
      (updateCauses s).press = s.press ∧ (updateCauses s).alerts = s.alerts ∧ (updateCauses s).port = s.port ∧
      (updateCauses s).free = s.free := by
  simp only [updateCauses]
  (repeat' split) <;> simp

@[simp] theorem recoverCheckpoint_frame (s : State) :
    (recoverCheckpoint s).pending = s.pending ∧ (recoverCheckpoint s).lines = s.lines ∧
      (recoverCheckpoint s).start = s.start ∧ (recoverCheckpoint s).config = s.config ∧
      (recoverCheckpoint s).link = s.link ∧ (recoverCheckpoint s).peers = s.peers ∧
      (recoverCheckpoint s).milk = s.milk ∧ (recoverCheckpoint s).air = s.air ∧ (recoverCheckpoint s).seq = s.seq ∧
      (recoverCheckpoint s).fill = s.fill ∧ (recoverCheckpoint s).coag = s.coag ∧
      (recoverCheckpoint s).knife = s.knife ∧ (recoverCheckpoint s).queue = s.queue ∧
      (recoverCheckpoint s).press = s.press ∧ (recoverCheckpoint s).alerts = s.alerts ∧
      (recoverCheckpoint s).port = s.port ∧ (recoverCheckpoint s).free = s.free := by
  simp only [recoverCheckpoint]
  (repeat' split) <;> simp

@[simp] theorem recoverLane_frame (s : State) :
    (recoverLane s).pending = s.pending ∧ (recoverLane s).lines = s.lines ∧ (recoverLane s).start = s.start ∧
      (recoverLane s).config = s.config ∧ (recoverLane s).link = s.link ∧ (recoverLane s).peers = s.peers ∧
      (recoverLane s).milk = s.milk ∧ (recoverLane s).air = s.air ∧ (recoverLane s).seq = s.seq ∧
      (recoverLane s).fill = s.fill ∧ (recoverLane s).coag = s.coag ∧ (recoverLane s).knife = s.knife ∧
      (recoverLane s).queue = s.queue ∧ (recoverLane s).press = s.press ∧ (recoverLane s).alerts = s.alerts ∧
      (recoverLane s).port = s.port ∧ (recoverLane s).free = s.free := by
  simp only [recoverLane]
  (repeat' split) <;> simp

@[simp] theorem enterListen_frame (c : RunConfig) (s : State) :
    (enterListen c s).pending = s.pending ∧ (enterListen c s).lines = s.lines ∧
      (enterListen c s).config = s.config ∧ (enterListen c s).peers = s.peers ∧ (enterListen c s).milk = s.milk ∧
      (enterListen c s).air = s.air ∧ (enterListen c s).seq = s.seq ∧ (enterListen c s).fill = s.fill ∧
      (enterListen c s).coag = s.coag ∧ (enterListen c s).knife = s.knife ∧ (enterListen c s).queue = s.queue ∧
      (enterListen c s).press = s.press ∧ (enterListen c s).alerts = s.alerts ∧ (enterListen c s).store = s.store ∧
      (enterListen c s).free = s.free := by
  simp only [enterListen]
  (repeat' split) <;> simp

@[simp] theorem respond_frame (r : Response) (s : State) :
    (respond r s).pending = s.pending ∧ (respond r s).lines = s.lines ∧ (respond r s).start = s.start ∧
      (respond r s).config = s.config ∧ (respond r s).link = s.link ∧ (respond r s).peers = s.peers ∧
      (respond r s).milk = s.milk ∧ (respond r s).air = s.air ∧ (respond r s).seq = s.seq ∧
      (respond r s).fill = s.fill ∧ (respond r s).coag = s.coag ∧ (respond r s).knife = s.knife ∧
      (respond r s).queue = s.queue ∧ (respond r s).press = s.press ∧ (respond r s).alerts = s.alerts ∧
      (respond r s).store = s.store ∧ (respond r s).free = s.free := by
  simp only [respond]
  (repeat' split) <;> simp

@[simp] theorem discardCharacters_frame (n : Nat) (s : State) :
    (discardCharacters n s).pending = s.pending ∧ (discardCharacters n s).lines = s.lines ∧
      (discardCharacters n s).start = s.start ∧ (discardCharacters n s).config = s.config ∧
      (discardCharacters n s).link = s.link ∧ (discardCharacters n s).peers = s.peers ∧
      (discardCharacters n s).milk = s.milk ∧ (discardCharacters n s).air = s.air ∧
      (discardCharacters n s).seq = s.seq ∧ (discardCharacters n s).fill = s.fill ∧
      (discardCharacters n s).coag = s.coag ∧ (discardCharacters n s).knife = s.knife ∧
      (discardCharacters n s).queue = s.queue ∧ (discardCharacters n s).press = s.press ∧
      (discardCharacters n s).alerts = s.alerts ∧ (discardCharacters n s).store = s.store ∧
      (discardCharacters n s).free = s.free := by
  simp only [discardCharacters]
  (repeat' split) <;> simp

@[simp] theorem program_frame (n : Nat) (b : List Byte) (w : PortWork) (s : State) :
    (program n b w s).pending = s.pending ∧ (program n b w s).lines = s.lines ∧ (program n b w s).start = s.start ∧
      (program n b w s).config = s.config ∧ (program n b w s).link = s.link ∧ (program n b w s).peers = s.peers ∧
      (program n b w s).milk = s.milk ∧ (program n b w s).air = s.air ∧ (program n b w s).seq = s.seq ∧
      (program n b w s).fill = s.fill ∧ (program n b w s).coag = s.coag ∧ (program n b w s).knife = s.knife ∧
      (program n b w s).queue = s.queue ∧ (program n b w s).press = s.press ∧ (program n b w s).alerts = s.alerts ∧
      (program n b w s).free = s.free := by
  simp only [program]
  (repeat' split) <;> simp

@[simp] theorem endProgram_frame (n : Nat) (b : List Byte) (g : Bool) (s : State) :
    (endProgram n b g s).pending = s.pending ∧ (endProgram n b g s).lines = s.lines ∧
      (endProgram n b g s).start = s.start ∧ (endProgram n b g s).config = s.config ∧
      (endProgram n b g s).link = s.link ∧ (endProgram n b g s).peers = s.peers ∧
      (endProgram n b g s).milk = s.milk ∧ (endProgram n b g s).air = s.air ∧ (endProgram n b g s).seq = s.seq ∧
      (endProgram n b g s).fill = s.fill ∧ (endProgram n b g s).coag = s.coag ∧
      (endProgram n b g s).knife = s.knife ∧ (endProgram n b g s).queue = s.queue ∧
      (endProgram n b g s).press = s.press ∧ (endProgram n b g s).alerts = s.alerts ∧
      (endProgram n b g s).port = s.port ∧ (endProgram n b g s).free = s.free := by
  simp only [endProgram]
  (repeat' split) <;> simp

end Sys2Proof.Machine
end

