-- ==== Sys2Proof/Laws/Ops.lean ====
section
/-! SUPPORT. What each shared operation does: heads, pools, records of the store, lists kept in order, claims
and grants, settings codes and layouts, the served set. -/

set_option Elab.async false

namespace Sys2Proof.Machine

/-! ### Heads and pools -/

theorem headNos_all (h : HeadNo) : h ∈ headNos := by
  revert h; decide

@[simp] theorem Four.get_set_same {α : Type} (f : Four α) (h : HeadNo) (x : α) : (f.set h x).get h = x := by
  unfold Four.get Four.set
  (repeat' split) <;> simp_all

theorem Four.get_set_other {α : Type} (f : Four α) (g h : HeadNo) (x : α) (n : h ≠ g) : (f.set g x).get h = f.get h := by
  rcases f with ⟨a, b, c, d⟩
  match g, h with
  | 0, 0 => exact absurd rfl n
  | 0, 1 => rfl
  | 0, 2 => rfl
  | 0, 3 => rfl
  | 1, 0 => rfl
  | 1, 1 => exact absurd rfl n
  | 1, 2 => rfl
  | 1, 3 => rfl
  | 2, 0 => rfl
  | 2, 1 => rfl
  | 2, 2 => exact absurd rfl n
  | 2, 3 => rfl
  | 3, 0 => rfl
  | 3, 1 => rfl
  | 3, 2 => rfl
  | 3, 3 => exact absurd rfl n

@[simp] theorem Four.get_map {α β : Type} (g : α → β) (f : Four α) (h : HeadNo) : (f.map g).get h = g (f.get h) := by
  unfold Four.get Four.map
  (repeat' split) <;> rfl

@[simp] theorem Four.get_all {α : Type} (x : α) (h : HeadNo) : (Four.all x).get h = x := by
  unfold Four.get Four.all
  (repeat' split) <;> rfl

theorem Four.ext_get {α : Type} (f g : Four α) (h : ∀ n, f.get n = g.get n) : f = g := by
  rcases f with ⟨a, b, c, d⟩
  rcases g with ⟨a', b', c', d'⟩
  have h0 : a = a' := h 0
  have h1 : b = b' := h 1
  have h2 : c = c' := h 2
  have h3 : d = d' := h 3
  rw [h0, h1, h2, h3]

@[simp] theorem head_setHead_same (s : State) (h : HeadNo) (x : Head) : (s.setHead h x).head h = x := by
  simp [State.head, State.setHead]

theorem head_setHead_other (s : State) (g h : HeadNo) (x : Head) (n : h ≠ g) : (s.setHead g x).head h = s.head h := by
  simp [State.head, State.setHead, Four.get_set_other _ _ _ _ n]

@[simp] theorem setHead_airGrant (s : State) (h : HeadNo) (x : Head) : (s.setHead h x).press.airGrant = s.press.airGrant := rfl

@[simp] theorem pool_setPool_same (s : State) (p : Pool) (x : PoolState) : (s.setPool p x).pool p = x := by
  cases p <;> rfl

theorem pool_setPool_other (s : State) (p q : Pool) (x : PoolState) (n : q ≠ p) : (s.setPool p x).pool q = s.pool q := by
  cases p <;> cases q <;> first | rfl | exact absurd rfl n

/-! ### The receive state and the runs (R12) -/

@[simp] theorem leaveRun_link (r : Receive) (s : State) : (leaveRun r s).link = { s.link with receive := r } := rfl
@[simp] theorem leaveRun_config (r : Receive) (s : State) : (leaveRun r s).config = s.config := rfl
@[simp] theorem leaveRun_start (r : Receive) (s : State) : (leaveRun r s).start = s.start := rfl
@[simp] theorem leaveRun_alerts (r : Receive) (s : State) : (leaveRun r s).alerts = s.alerts := rfl

/-- What breaks the receive checks: a trailing run follows a judged frame within the run gap, any other run begins past
it. -/
theorem breaks_iff (cause : RunBreak) (l : LinkState) :
    l.breaks cause = true ↔
      if cause.fault = .trailingRun then l.receive = .judged ∧ cause.idleMicros ≤ 300 else 300 < cause.idleMicros := by
  unfold LinkState.breaks beginsRun
  cases cause.fault <;> simp

/-! ### Durations (R175, R185) -/

/-- A limited duration is at most 37800 s. -/
theorem duration_le (c : Nat) (h : c < 255) : duration c ≤ 37800 := by
  unfold duration; split <;> (try split) <;> (try split) <;> omega

/-- Code 255 is unlimited. -/
theorem duration_unlimited (c : Nat) (h : 255 ≤ c) : duration c = unlimited := by
  unfold duration; split <;> (try split) <;> (try split) <;> omega

/-- No time of at most 65535 s, where the station's two-byte clocks stop, reaches an unlimited duration. -/
theorem unlimited_not_reached (c n : Nat) (h : 255 ≤ c) (hn : n ≤ 65535) : ¬ duration c ≤ n := by
  rw [duration_unlimited c h]; unfold unlimited; omega

theorem durationLe_iff (a b : Nat) : durationLe a b = true ↔ duration a ≤ duration b := decide_eq_true_iff

/-- Every duration lies at or below an unlimited one. -/
theorem durationLe_unlimited (a b : Nat) (hb : 255 ≤ b) : durationLe a b = true := by
  rw [durationLe_iff, duration_unlimited b hb]
  rcases Nat.lt_or_ge a 255 with ha | ha
  · exact Nat.le_trans (duration_le a ha) (by decide)
  · exact Nat.le_of_eq (duration_unlimited a ha)

/-- An unlimited duration lies above every limited one. -/
theorem not_unlimited_durationLe (a b : Nat) (ha : 255 ≤ a) (hb : b < 255) : durationLe a b = false :=
  decide_eq_false (unlimited_not_reached a _ ha (Nat.le_trans (duration_le b hb) (by decide)))

/-! ### The set clock with the second that has fallen (R102, R116) -/

theorem CoagState.now_fallen (x : CoagState) (h : x.secondFallen = true) : x.now = satAdd 65535 x.clock 1 := by
  simp [CoagState.now, h]

theorem CoagState.now_settled (x : CoagState) (h : x.secondFallen = false) : x.now = x.clock := by
  simp [CoagState.now, h]

/-! ### Records of the store (R78, R80, R160, R175) -/

@[simp] theorem Slot.write_stored {α : Type} (r : Slot α) (x : α) : (r.write x).stored = r.stored := by
  unfold Slot.write; split <;> rfl

@[simp] theorem Slot.write_good {α : Type} (r : Slot α) (x : α) : (r.write x).good = r.good := by
  unfold Slot.write; split <;> rfl

@[simp] theorem Slot.latest_settled {α : Type} (x : α) : (Slot.settled x).latest = x := rfl

@[simp] theorem Slot.tear_inFlight {α : Type} (r : Slot α) : r.tear.inFlight = none := rfl

@[simp] theorem Slot.tear_latest {α : Type} (r : Slot α) : r.tear.latest = r.stored := rfl

/-! ### The hold-reason set (R61) -/

theorem HoldSet.put_has_same (h : HoldSet) (r : Reason) (b : Bool) : (h.put r b).has r = b := by
  cases r <;> rfl

theorem HoldSet.put_has_other (h : HoldSet) (q r : Reason) (b : Bool) (n : q ≠ r) : (h.put r b).has q = h.has q := by
  cases r <;> cases q <;> first | rfl | exact absurd rfl n

theorem HoldSet.held_iff (h : HoldSet) : h.held = true ↔ ∃ r, h.has r = true := by
  constructor
  · intro e
    simp only [HoldSet.held, Bool.or_eq_true] at e
    rcases e with (((e | e) | e) | e) | e
    · exact ⟨.order, e⟩
    · exact ⟨.line, e⟩
    · exact ⟨.alert, e⟩
    · exact ⟨.meter, e⟩
    · exact ⟨.knife, e⟩
  · rintro ⟨r, e⟩
    cases r <;> simp_all [HoldSet.has, HoldSet.held]

@[simp] theorem HoldSet.clear_held : HoldSet.clear.held = false := rfl

/-! ### Lists kept in order -/

theorem mem_insertAlert (a x : AlertRecord) (l : List AlertRecord) : x ∈ insertAlert a l ↔ x = a ∨ x ∈ l := by
  induction l with
  | nil => simp [insertAlert]
  | cons b bs ih =>
    unfold insertAlert
    split
    · simp
    · simp [ih, or_left_comm]

theorem insertAlert_ordered (a : AlertRecord) (l : List AlertRecord)
    (h : (l.map fun r => r.kind.number).Pairwise (· < ·)) (n : ∀ r ∈ l, r.kind.number ≠ a.kind.number) :
    ((insertAlert a l).map fun r => r.kind.number).Pairwise (· < ·) := by
  induction l with
  | nil => simp [insertAlert]
  | cons b bs ih =>
    simp only [List.map_cons, List.pairwise_cons, List.mem_map, forall_exists_index, and_imp,
      forall_apply_eq_imp_iff₂] at h
    unfold insertAlert
    split
    · rename_i lt
      simp only [List.map_cons, List.pairwise_cons, List.mem_cons, List.mem_map]
      refine ⟨?_, ?_, h.2⟩
      · rintro k (rfl | ⟨r, hr, rfl⟩)
        · exact lt
        · exact Nat.lt_trans lt (h.1 r hr)
      · rintro k ⟨r, hr, rfl⟩; exact h.1 r hr
    · rename_i ge
      have nb := n b (by simp)
      simp only [List.map_cons, List.pairwise_cons, List.mem_map]
      refine ⟨?_, ih h.2 fun r hr => n r (by simp [hr])⟩
      rintro k ⟨r, hr, rfl⟩
      rcases (mem_insertAlert a r bs).1 hr with rfl | hr
      · omega
      · exact h.1 r hr

theorem mem_insertPeer (a x : PeerRecord) (l : List PeerRecord) : x ∈ insertPeer a l ↔ x = a ∨ x ∈ l := by
  induction l with
  | nil => simp [insertPeer]
  | cons b bs ih =>
    unfold insertPeer
    split
    · simp
    · simp [ih, or_left_comm]

theorem insertRanked_perm (a : Candidate) (l : List Candidate) : (insertRanked a l).Perm (a :: l) := by
  induction l with
  | nil => exact .refl _
  | cons b bs ih =>
    unfold insertRanked
    split
    · exact .refl _
    · exact (ih.cons b).trans (.swap a b bs)

/-! ### Claims and grants (R41, R46, R54) -/

/-- Setting a pool's grant changes nothing of the pool but the grant. -/
theorem setGrant_pool (p : Pool) (g : Nat) (s : State) : (setGrant p g s).pool p = { s.pool p with grant := g } := by
  unfold setGrant
  by_cases h : (s.pool p).grant = g
  · simp [← h]
  · cases p <;> simp_all [State.pool, State.setPool]

theorem setGrant_pool_other (p q : Pool) (g : Nat) (s : State) (n : q ≠ p) : (setGrant p g s).pool q = s.pool q := by
  cases p <;> cases q <;> first | exact absurd rfl n | simp [State.pool]

/-- The whole of what a consumer's figures do to its pool: the claim, and a grant cut to the request. -/
theorem presentClaim_pool (p : Pool) (level request floor : Nat) (s : State) :
    (presentClaim p level request floor s).pool p =
      { s.pool p with
        own := presented (s.pool p).own level request floor, grant := min (s.pool p).grant request } := by
  simp [presentClaim, setGrant_pool]

theorem FillState.steer_qCmd (f : FillState) (q : Nat) : (f.steer q).qCmd = q := by
  unfold FillState.steer; split <;> simp_all

theorem FillState.takeGrant_qCmd (f : FillState) (g : Nat) : (f.takeGrant g).qCmd = min f.qCmd g := by
  unfold FillState.takeGrant
  split
  · rw [FillState.steer_qCmd]; omega
  · simp; omega

@[simp] theorem FillState.takeGrant_grant (f : FillState) (g : Nat) : (f.takeGrant g).grant = g := by
  unfold FillState.takeGrant FillState.steer
  (repeat' split) <;> rfl

/-- A grant at a turn is at most the remainder and at most the request. -/
theorem turnGrant_le (r : Nat) (c : Claim) : turnGrant r c ≤ r ∧ turnGrant r c ≤ c.request := by
  unfold turnGrant
  (repeat' split) <;> omega

/-! ### The knives (R122, R125) -/

@[simp] theorem KnifeState.withdraw_job (dwellOver : Bool) (k : KnifeState) : (k.withdraw dwellOver).job = none := by
  unfold KnifeState.withdraw
  (repeat' split) <;> simp_all

/-! ### The transmit queue (R6) -/

theorem offerTo_length (l : LinkState) (f : TxFrame) (h : l.queue.length ≤ 6) : (offerTo l f).queue.length ≤ 6 := by
  unfold offerTo
  (repeat' split) <;> simp_all <;> omega

@[simp] theorem offerTo_flight (l : LinkState) (f : TxFrame) : (offerTo l f).flight = l.flight := by
  unfold offerTo; (repeat' split) <;> rfl

/-! ### Settings: what a stored code means, and fields laid out as they were taken (R178, 13.4) -/

@[simp] theorem countsEdge_rising (b : Bool) : countsEdge 1 b = b := rfl

@[simp] theorem countsEdge_falling (b : Bool) : countsEdge 2 b = !b := rfl

@[simp] theorem countsEdge_both (b : Bool) : countsEdge 3 b = true := rfl

theorem countsEdge_stray (code : Nat) (b : Bool) (h : code = 0 ∨ 3 < code) :
    countsEdge code b = Config.strayEdge code b := by
  unfold countsEdge
  rw [if_neg (by omega), if_neg (by omega), if_neg (by omega)]

@[simp] theorem choiceOf_zero (stray : Nat → Bool) : choiceOf stray 0 = false := rfl

@[simp] theorem choiceOf_one (stray : Nat → Bool) : choiceOf stray 1 = true := rfl

theorem choiceOf_stray (stray : Nat → Bool) (code : Nat) (h : 1 < code) : choiceOf stray code = stray code := by
  unfold choiceOf
  rw [if_neg (by omega), if_neg (by omega)]

@[simp] theorem LineSettings.get_inverted (l : LineSettings) (h : HeadNo) :
    l.inverted.get h = choiceOf Config.straySense (l.sense.get h) := by
  unfold Four.get LineSettings.inverted
  (repeat' split) <;> rfl

theorem poolFields_poolOf (c fs le ll se sl : Nat) : poolFields (poolOf [c, fs, le, ll, se, sl]) = [c, fs, le, ll, se, sl] := rfl

theorem linesFields_linesOf (m t l s d v1 v2 v3 v4 : Nat) :
    linesFields (linesOf [m, t, l, s, d, v1, v2, v3, v4]) = [m, t, l, s, d, v1, v2, v3, v4] := rfl

theorem fillFields_fillOf (p r g : Nat) : fillFields (fillOf [p, r, g]) = [p, r, g] := rfl

theorem pressFields_pressOf (f a kf kp band time limit mode : Nat) :
    pressFields (pressOf [f, a, kf, kp, band, time, limit, mode]) = [f, a, kf, kp, band, time, limit, mode] := rfl

/-- The fields of whole stages are laid out as they were taken. -/
theorem stagesFields_stagesOf : (n : Nat) → (fs : List Nat) → fs.length = 3 * n → stagesFields (stagesOf fs) = fs
  | 0, [], _ => rfl
  | n + 1, p :: r :: h :: rest, e => by
    simp only [stagesOf, stagesFields, stagesFields_stagesOf n rest (by simp only [List.length_cons] at e; omega)]
  | 0, _ :: _, e => by simp at e
  | n + 1, [], e => by simp at e
  | n + 1, [_], e => by simp at e; omega
  | n + 1, [_, _], e => by simp at e; omega

theorem recipeFields_recipeOf (fs : List Nat) (h : fs.length = 46) : recipeFields (recipeOf fs) = fs := by
  rw [recipeFields, recipeOf]
  simp only
  rw [stagesFields_stagesOf 6 _ (by simp; omega)]
  refine Eq.trans ?_ (List.take_append_drop 28 fs)
  congr 1
  apply List.ext_getElem
  · simp; omega
  · intro n h1 h2
    simp only [List.length_cons, List.length_nil] at h1
    iterate 28 (rcases n with _ | n; · simp [List.getD, h])
    omega

@[simp] theorem length_parseFields (ws : List Nat) (bs : List Byte) : (parseFields ws bs).length = ws.length := by
  induction ws generalizing bs with
  | nil => rfl
  | cons w ws ih => simp [parseFields, ih]

theorem be16_fromBytes (a b : Byte) : be16 (fromBytes [a, b]) = [a, b] := by
  have ha := a.isLt
  have hb := b.isLt
  simp only [be16, byte, fromBytes, List.foldl_cons, List.foldl_nil, List.cons.injEq, and_true]
  constructor <;> apply BitVec.eq_of_toNat_eq <;> simp <;> omega

/-- Contents of a layout's length, in fields of one or two bytes, are laid out as they were read. -/
theorem layFields_parseFields (ws : List Nat) (hw : ∀ w ∈ ws, w = 1 ∨ w = 2) (bs : List Byte) (h : bs.length = ws.sum) :
    layFields ws (parseFields ws bs) = bs := by
  induction ws generalizing bs with
  | nil => simp_all [parseFields, layFields]
  | cons w ws ih =>
    simp only [parseFields, layFields]
    rw [ih (fun x hx => hw x (by simp [hx])) (bs.drop w) (by simp at *; omega)]
    rcases hw w (by simp) with rfl | rfl
    · match bs, h with
      | b :: bs, _ => simp [fieldBytes, fromBytes, byte]
      | [], h => simp at h; omega
    · match bs, h with
      | a :: b :: bs, _ =>
        rw [show fieldBytes 2 (fromBytes ((a :: b :: bs).take 2)) = [a, b] from be16_fromBytes a b]
        rfl
      | [_], h => simp at h; omega
      | [], h => simp at h; omega

/-! ### The served set (R150) -/

@[simp] theorem servedCount_of_pos (grant : Nat) {a : Nat} (h : 0 < a) : servedCount grant a = grant / a :=
  if_neg (Nat.ne_of_gt h)

@[simp] theorem servedCount_zero (grant : Nat) : servedCount grant 0 = Config.servedDivZero grant := rfl

/-- The served set holds at most the g heads of R150. -/
theorem servedSet_length_le (c : RunConfig) (s : State) :
    (servedSet c s).length ≤ servedCount s.press.airGrant c.press.rampAir := by
  simp [servedSet, List.length_take, Nat.min_le_left]

end Sys2Proof.Machine
end

