-- ==== Sys2Proof/Laws/PerInstr.lean ====
section
/-! SUPPORT. Laws about each command as syntax, one lemma for each constructor of Instr. -/

set_option Elab.async false

namespace Sys2Proof.Laws

/-- No word of the table spells the command: the opcode table gives no row any bits (log 30). -/
def Unspelled.Statement (i : Instr) : Prop := ∀ nbits w : Nat, decodeTableWord nbits w ≠ some i

/-- The decoder over the rows that give bits reads no word. -/
theorem decodeTableWord_none (nbits w : Nat) : decodeTableWord nbits w = none := rfl

theorem unspelled_all (i : Instr) : Unspelled.Statement i := fun nbits w h => by simp [decodeTableWord_none] at h

theorem Unspelled.runJudged (run : Run) :
    Unspelled.Statement (.runJudged run) := unspelled_all _

theorem Unspelled.runFramingError (cause : RunBreak) :
    Unspelled.Statement (.runFramingError cause) := unspelled_all _

theorem Unspelled.linkErrorTallyFull :
    Unspelled.Statement .linkErrorTallyFull := unspelled_all _

theorem Unspelled.statusBuild :
    Unspelled.Statement .statusBuild := unspelled_all _

theorem Unspelled.openingSecondEnd :
    Unspelled.Statement .openingSecondEnd := unspelled_all _

theorem Unspelled.transmissionAttemptStart (idleMicros : Nat) :
    Unspelled.Statement (.transmissionAttemptStart idleMicros) := unspelled_all _

theorem Unspelled.collision :
    Unspelled.Statement .collision := unspelled_all _

theorem Unspelled.txDropped :
    Unspelled.Statement .txDropped := unspelled_all _

theorem Unspelled.backoffExpiry (idleMicros : Nat) :
    Unspelled.Statement (.backoffExpiry idleMicros) := unspelled_all _

theorem Unspelled.frameSent :
    Unspelled.Statement .frameSent := unspelled_all _

theorem Unspelled.orderStart (sender arg tag : Byte) :
    Unspelled.Statement (.orderStart sender arg tag) := unspelled_all _

theorem Unspelled.orderHold (all : Bool) (sender arg tag : Byte) :
    Unspelled.Statement (.orderHold all sender arg tag) := unspelled_all _

theorem Unspelled.orderResume (all : Bool) (sender arg tag : Byte) :
    Unspelled.Statement (.orderResume all sender arg tag) := unspelled_all _

theorem Unspelled.orderAbort (sender arg tag : Byte) :
    Unspelled.Statement (.orderAbort sender arg tag) := unspelled_all _

theorem Unspelled.orderCutNow (sender arg tag : Byte) :
    Unspelled.Statement (.orderCutNow sender arg tag) := unspelled_all _

theorem Unspelled.orderClear (sender arg tag : Byte) :
    Unspelled.Statement (.orderClear sender arg tag) := unspelled_all _

theorem Unspelled.orderAck (sender arg tag : Byte) :
    Unspelled.Statement (.orderAck sender arg tag) := unspelled_all _

theorem Unspelled.orderUnknown (all : Bool) (sender code arg tag : Byte) :
    Unspelled.Statement (.orderUnknown all sender code arg tag) := unspelled_all _

theorem Unspelled.peerTimeout (number : Nat) :
    Unspelled.Statement (.peerTimeout number) := unspelled_all _

theorem Unspelled.peerRecordRemoval (number : Nat) :
    Unspelled.Statement (.peerRecordRemoval number) := unspelled_all _

theorem Unspelled.bandSample (milkRaw airRaw : Raw) :
    Unspelled.Statement (.bandSample milkRaw airRaw) := unspelled_all _

theorem Unspelled.bandChange (pool : Pool) :
    Unspelled.Statement (.bandChange pool) := unspelled_all _

theorem Unspelled.tapDegraded (pool : Pool) :
    Unspelled.Statement (.tapDegraded pool) := unspelled_all _

theorem Unspelled.degradedEnd (pool : Pool) :
    Unspelled.Statement (.degradedEnd pool) := unspelled_all _

theorem Unspelled.onceASecondReckoning :
    Unspelled.Statement .onceASecondReckoning := unspelled_all _

theorem Unspelled.waitedStepAdvance (pool : Pool) :
    Unspelled.Statement (.waitedStepAdvance pool) := unspelled_all _

theorem Unspelled.holdLineActive :
    Unspelled.Statement .holdLineActive := unspelled_all _

theorem Unspelled.holdLineInactive :
    Unspelled.Statement .holdLineInactive := unspelled_all _

theorem Unspelled.startLineEdge (rising : Bool) :
    Unspelled.Statement (.startLineEdge rising) := unspelled_all _

theorem Unspelled.estopLineActive :
    Unspelled.Statement .estopLineActive := unspelled_all _

theorem Unspelled.estopLineInactive :
    Unspelled.Statement .estopLineInactive := unspelled_all _

theorem Unspelled.checkpointWriteDone :
    Unspelled.Statement .checkpointWriteDone := unspelled_all _

theorem Unspelled.historyWriteDone (number : Nat) :
    Unspelled.Statement (.historyWriteDone number) := unspelled_all _

theorem Unspelled.meterEdge (rising : Bool) :
    Unspelled.Statement (.meterEdge rising) := unspelled_all _

theorem Unspelled.coverVolumeReached :
    Unspelled.Statement .coverVolumeReached := unspelled_all _

theorem Unspelled.fillTargetReached :
    Unspelled.Statement .fillTargetReached := unspelled_all _

theorem Unspelled.fillSecond :
    Unspelled.Statement .fillSecond := unspelled_all _

theorem Unspelled.meterFault :
    Unspelled.Statement .meterFault := unspelled_all _

theorem Unspelled.fillSlow :
    Unspelled.Statement .fillSlow := unspelled_all _

theorem Unspelled.settleEnd :
    Unspelled.Statement .settleEnd := unspelled_all _

theorem Unspelled.doseEnd :
    Unspelled.Statement .doseEnd := unspelled_all _

theorem Unspelled.setClockSecond :
    Unspelled.Statement .setClockSecond := unspelled_all _

theorem Unspelled.mixEnd :
    Unspelled.Statement .mixEnd := unspelled_all _

theorem Unspelled.sampleComplete (raw : Raw) :
    Unspelled.Statement (.sampleComplete raw) := unspelled_all _

theorem Unspelled.firmnessSensor :
    Unspelled.Statement .firmnessSensor := unspelled_all _

theorem Unspelled.noFloc :
    Unspelled.Statement .noFloc := unspelled_all _

theorem Unspelled.cutDue :
    Unspelled.Statement .cutDue := unspelled_all _

theorem Unspelled.reverseDwellEnd :
    Unspelled.Statement .reverseDwellEnd := unspelled_all _

theorem Unspelled.startGraceEnd :
    Unspelled.Statement .startGraceEnd := unspelled_all _

theorem Unspelled.driveSecond :
    Unspelled.Statement .driveSecond := unspelled_all _

theorem Unspelled.cutDurationRun :
    Unspelled.Statement .cutDurationRun := unspelled_all _

theorem Unspelled.rampTimeRun :
    Unspelled.Statement .rampTimeRun := unspelled_all _

theorem Unspelled.stirTimeRun :
    Unspelled.Statement .stirTimeRun := unspelled_all _

theorem Unspelled.turnEdge (rising : Bool) :
    Unspelled.Statement (.turnEdge rising) := unspelled_all _

theorem Unspelled.knifeStall :
    Unspelled.Statement .knifeStall := unspelled_all _

theorem Unspelled.driveFaultActive (level : Bool) :
    Unspelled.Statement (.driveFaultActive level) := unspelled_all _

theorem Unspelled.loadDoneEdge (rising : Bool) :
    Unspelled.Statement (.loadDoneEdge rising) := unspelled_all _

theorem Unspelled.mouldingEnd :
    Unspelled.Statement .mouldingEnd := unspelled_all _

theorem Unspelled.vatEmptyActive (level : Bool) :
    Unspelled.Statement (.vatEmptyActive level) := unspelled_all _

theorem Unspelled.loadLate (sequence : Nat) :
    Unspelled.Statement (.loadLate sequence) := unspelled_all _

theorem Unspelled.driveSample (raw1 raw2 raw3 raw4 : Raw) :
    Unspelled.Statement (.driveSample raw1 raw2 raw3 raw4) := unspelled_all _

theorem Unspelled.pressSecond (raw1 raw2 raw3 raw4 : Raw) :
    Unspelled.Statement (.pressSecond raw1 raw2 raw3 raw4) := unspelled_all _

theorem Unspelled.stageHoldEnd (head : HeadNo) :
    Unspelled.Statement (.stageHoldEnd head) := unspelled_all _

theorem Unspelled.holdUnderpressure (head : HeadNo) :
    Unspelled.Statement (.holdUnderpressure head) := unspelled_all _

theorem Unspelled.headPendingOut (head : HeadNo) :
    Unspelled.Statement (.headPendingOut head) := unspelled_all _

theorem Unspelled.ventEnd (head : HeadNo) :
    Unspelled.Statement (.ventEnd head) := unspelled_all _

theorem Unspelled.headUnload (head : HeadNo) :
    Unspelled.Statement (.headUnload head) := unspelled_all _

theorem Unspelled.guardOpen :
    Unspelled.Statement .guardOpen := unspelled_all _

theorem Unspelled.guardClose :
    Unspelled.Statement .guardClose := unspelled_all _

theorem Unspelled.headRecordWriteDone (head : HeadNo) :
    Unspelled.Statement (.headRecordWriteDone head) := unspelled_all _

theorem Unspelled.setupFrameAbandon (gapMicros : Nat) :
    Unspelled.Statement (.setupFrameAbandon gapMicros) := unspelled_all _

theorem Unspelled.setupCharacterDiscard (character : Byte) :
    Unspelled.Statement (.setupCharacterDiscard character) := unspelled_all _

theorem Unspelled.setupUnknownCommand (code : Byte) (body : List Byte) :
    Unspelled.Statement (.setupUnknownCommand code body) := unspelled_all _

theorem Unspelled.responseSent :
    Unspelled.Statement .responseSent := unspelled_all _

theorem Unspelled.identify (body : List Byte) :
    Unspelled.Statement (.identify body) := unspelled_all _

theorem Unspelled.readSettings (body : List Byte) :
    Unspelled.Statement (.readSettings body) := unspelled_all _

theorem Unspelled.writeSettings (body : List Byte) :
    Unspelled.Statement (.writeSettings body) := unspelled_all _

theorem Unspelled.settingsProgramDone (held : List Byte) (crcGood : Bool) :
    Unspelled.Statement (.settingsProgramDone held crcGood) := unspelled_all _

theorem Unspelled.checkSettings (body : List Byte) :
    Unspelled.Statement (.checkSettings body) := unspelled_all _

theorem Unspelled.eraseSettings (body : List Byte) :
    Unspelled.Statement (.eraseSettings body) := unspelled_all _

theorem Unspelled.readLink (body : List Byte) :
    Unspelled.Statement (.readLink body) := unspelled_all _

theorem Unspelled.readPeers (body : List Byte) :
    Unspelled.Statement (.readPeers body) := unspelled_all _

theorem Unspelled.readPools (body : List Byte) :
    Unspelled.Statement (.readPools body) := unspelled_all _

theorem Unspelled.readBatches (body : List Byte) :
    Unspelled.Statement (.readBatches body) := unspelled_all _

theorem Unspelled.readFill (body : List Byte) :
    Unspelled.Statement (.readFill body) := unspelled_all _

theorem Unspelled.readFirmness (body : List Byte) :
    Unspelled.Statement (.readFirmness body) := unspelled_all _

theorem Unspelled.readKnife (body : List Byte) :
    Unspelled.Statement (.readKnife body) := unspelled_all _

theorem Unspelled.readQueue (body : List Byte) :
    Unspelled.Statement (.readQueue body) := unspelled_all _

theorem Unspelled.readHeads (body : List Byte) :
    Unspelled.Statement (.readHeads body) := unspelled_all _

theorem Unspelled.readAlerts (body : List Byte) :
    Unspelled.Statement (.readAlerts body) := unspelled_all _

theorem Unspelled.readCauses (body : List Byte) :
    Unspelled.Statement (.readCauses body) := unspelled_all _

theorem Unspelled.clearHeadFaults (body : List Byte) :
    Unspelled.Statement (.clearHeadFaults body) := unspelled_all _

theorem Unspelled.ackAlert (body : List Byte) :
    Unspelled.Statement (.ackAlert body) := unspelled_all _

theorem Unspelled.clearCauses (body : List Byte) :
    Unspelled.Statement (.clearCauses body) := unspelled_all _

theorem Unspelled.restart (body : List Byte) :
    Unspelled.Statement (.restart body) := unspelled_all _

theorem Unspelled.causeRecordWriteDone (held : Byte) (crcGood : Bool) :
    Unspelled.Statement (.causeRecordWriteDone held crcGood) := unspelled_all _

theorem Unspelled.reset (cause : Cause) :
    Unspelled.Statement (.reset cause) := unspelled_all _

theorem Unspelled.startSequence :
    Unspelled.Statement .startSequence := unspelled_all _

theorem Unspelled.listenTimerExpiry :
    Unspelled.Statement .listenTimerExpiry := unspelled_all _

theorem Unspelled.firmnessReading (raw : Raw) :
    Unspelled.Statement (.firmnessReading raw) := unspelled_all _

theorem Unspelled.outputPeriodEnd (head : HeadNo) :
    Unspelled.Statement (.outputPeriodEnd head) := unspelled_all _

theorem Unspelled.commandFrameBegin :
    Unspelled.Statement .commandFrameBegin := unspelled_all _

theorem Unspelled.commandCrcFailed (code : Byte) (body : List Byte) (crc : BitVec 16) :
    Unspelled.Statement (.commandCrcFailed code body crc) := unspelled_all _

end Sys2Proof.Laws
end

