-- ==== Sys2Proof/WellFormed.lean ====
section
/-! DEFINITION. The checks on a command's operands: what can arrive from outside at all. -/

namespace Sys2Proof

open Machine

/-- A run at its expected end (R12, R13). -/
def runWellFormed (run : Run) : Bool := runComplete run.chars

/-- The sender of a valid ORDER: a station number (R13). -/
def senderWellFormed (sender : Byte) : Bool := decide (1 ≤ sender.toNat) && decide (sender.toNat ≤ 32)

/-- A station number (R19). -/
def stationWellFormed (n : Nat) : Bool := decide (1 ≤ n) && decide (n ≤ 32)

/-- A batch number (R77). -/
def batchWellFormed (n : Nat) : Bool := decide (1 ≤ n) && decide (n ≤ 65535)

/-- A load sequence (R133). -/
def sequenceWellFormed (n : Nat) : Bool := decide (1 ≤ n) && decide (n ≤ 4294967295)

/-- A body whose length fits the length character of a command frame (R172). -/
def bodyWellFormed (body : List Byte) : Bool := decide (body.length ≤ 255)

/-- The contents of the longest settings section (13.4). -/
def contentsWellFormed (held : List Byte) : Bool := decide (held.length ≤ 68)

/-- A byte of cause-flag bits (13.5). -/
def causesWellFormed (held : Byte) : Bool := decide (held.toNat < 16)

/-- The order code of ORDER_UNKNOWN: one that no order has, unless the order is room-wide (R17, R18). -/
def unknownOrderWellFormed (all : Bool) (code : Byte) : Bool := all || code.toNat == 0 || decide (8 ≤ code.toNat)

/-- The command code of SETUP_UNKNOWN_COMMAND (R173). -/
def unknownCommandWellFormed (code : Byte) : Bool := !commandKnown code

/-- The CRC of COMMAND_CRC_FAILED differs from the one the frame must carry (R173). -/
def badCrcWellFormed (code : Byte) (body : List Byte) (crc : BitVec 16) : Bool := crc != commandCrc code body

/-- Whether a command can arrive as it stands. -/
def Instr.wellFormed : Instr → Bool
  | .runJudged run => runWellFormed run
  | .runFramingError _ => true
  | .linkErrorTallyFull => true
  | .statusBuild => true
  | .openingSecondEnd => true
  | .transmissionAttemptStart _ => true
  | .collision => true
  | .txDropped => true
  | .backoffExpiry _ => true
  | .frameSent => true
  | .orderStart sender _ _ => senderWellFormed sender
  | .orderHold _ sender _ _ => senderWellFormed sender
  | .orderResume _ sender _ _ => senderWellFormed sender
  | .orderAbort sender _ _ => senderWellFormed sender
  | .orderCutNow sender _ _ => senderWellFormed sender
  | .orderClear sender _ _ => senderWellFormed sender
  | .orderAck sender _ _ => senderWellFormed sender
  | .orderUnknown all sender code _ _ => senderWellFormed sender && unknownOrderWellFormed all code
  | .peerTimeout number => stationWellFormed number
  | .peerRecordRemoval number => stationWellFormed number
  | .bandSample _ _ => true
  | .bandChange _ => true
  | .tapDegraded _ => true
  | .degradedEnd _ => true
  | .onceASecondReckoning => true
  | .waitedStepAdvance _ => true
  | .holdLineActive => true
  | .holdLineInactive => true
  | .startLineEdge _ => true
  | .estopLineActive => true
  | .estopLineInactive => true
  | .checkpointWriteDone => true
  | .historyWriteDone number => batchWellFormed number
  | .meterEdge _ => true
  | .coverVolumeReached => true
  | .fillTargetReached => true
  | .fillSecond => true
  | .meterFault => true
  | .fillSlow => true
  | .settleEnd => true
  | .doseEnd => true
  | .setClockSecond => true
  | .mixEnd => true
  | .sampleComplete _ => true
  | .firmnessSensor => true
  | .noFloc => true
  | .cutDue => true
  | .reverseDwellEnd => true
  | .startGraceEnd => true
  | .driveSecond => true
  | .cutDurationRun => true
  | .rampTimeRun => true
  | .stirTimeRun => true
  | .turnEdge _ => true
  | .knifeStall => true
  | .driveFaultActive _ => true
  | .loadDoneEdge _ => true
  | .mouldingEnd => true
  | .vatEmptyActive _ => true
  | .loadLate sequence => sequenceWellFormed sequence
  | .driveSample _ _ _ _ => true
  | .pressSecond _ _ _ _ => true
  | .stageHoldEnd _ => true
  | .holdUnderpressure _ => true
  | .headPendingOut _ => true
  | .ventEnd _ => true
  | .headUnload _ => true
  | .guardOpen => true
  | .guardClose => true
  | .headRecordWriteDone _ => true
  | .setupFrameAbandon _ => true
  | .setupCharacterDiscard _ => true
  | .setupUnknownCommand code body => bodyWellFormed body && unknownCommandWellFormed code
  | .responseSent => true
  | .identify body => bodyWellFormed body
  | .readSettings body => bodyWellFormed body
  | .writeSettings body => bodyWellFormed body
  | .settingsProgramDone held _ => contentsWellFormed held
  | .checkSettings body => bodyWellFormed body
  | .eraseSettings body => bodyWellFormed body
  | .readLink body => bodyWellFormed body
  | .readPeers body => bodyWellFormed body
  | .readPools body => bodyWellFormed body
  | .readBatches body => bodyWellFormed body
  | .readFill body => bodyWellFormed body
  | .readFirmness body => bodyWellFormed body
  | .readKnife body => bodyWellFormed body
  | .readQueue body => bodyWellFormed body
  | .readHeads body => bodyWellFormed body
  | .readAlerts body => bodyWellFormed body
  | .readCauses body => bodyWellFormed body
  | .clearHeadFaults body => bodyWellFormed body
  | .ackAlert body => bodyWellFormed body
  | .clearCauses body => bodyWellFormed body
  | .restart body => bodyWellFormed body
  | .causeRecordWriteDone held _ => causesWellFormed held
  | .reset _ => true
  | .startSequence => true
  | .listenTimerExpiry => true
  | .firmnessReading _ => true
  | .outputPeriodEnd _ => true
  | .commandFrameBegin => true
  | .commandCrcFailed code body crc => bodyWellFormed body && badCrcWellFormed code body crc

end Sys2Proof
end

