-- ==== Sys2Proof/Tests/Slice0.lean ====
section
/-! SUPPORT. Tests: an ill-formed term for each check of WellFormed, worked examples of the manual, and for each statement with
hypotheses states and operands that meet them, clause by clause. -/

set_option Elab.async false

namespace Sys2Proof.Tests

open Machine

/-! ### Terms that cannot arrive -/

theorem test_runWellFormed_refuses_short : (Instr.runJudged { idleMicros := 301, chars := [0x7E, 8, 0, 1, 0, 3] }).wellFormed = false := by decide +kernel
theorem test_senderWellFormed_refuses_33 : (Instr.orderHold false 33 0 0).wellFormed = false := by decide +kernel
theorem test_stationWellFormed_refuses_0 : (Instr.peerTimeout 0).wellFormed = false := by decide +kernel
theorem test_batchWellFormed_refuses_65536 : (Instr.historyWriteDone 65536).wellFormed = false := by decide +kernel
theorem test_sequenceWellFormed_refuses_0 : (Instr.loadLate 0).wellFormed = false := by decide +kernel
theorem test_bodyWellFormed_refuses_256 : bodyWellFormed (List.replicate 256 0) = false := by decide +kernel
theorem test_contentsWellFormed_refuses_69 : contentsWellFormed (List.replicate 69 0) = false := by decide +kernel
theorem test_causesWellFormed_refuses_16 : (Instr.causeRecordWriteDone 16 true).wellFormed = false := by decide +kernel
theorem test_unknownOrderWellFormed_refuses_known : (Instr.orderUnknown false 20 7 0 0).wellFormed = false := by decide +kernel
theorem test_unknownCommandWellFormed_refuses_known : (Instr.setupUnknownCommand 0x1A []).wellFormed = false := by decide +kernel
theorem test_badCrcWellFormed_refuses_good :
    (Instr.commandCrcFailed 1 [] (commandCrc 1 [])).wellFormed = false := by decide +kernel
theorem test_wellFormed_accepts_hold : (Instr.orderHold true 32 0 0).wellFormed = true := by decide +kernel

/-- No word spells a command. -/
theorem test_decode_reads_no_word : decodeTableWord 16 0x0001 = none := rfl

/-! ### Formats (13.1, 13.6) -/

/-- 13.1: the CRC of the nine bytes of "123456789". -/
theorem test_crc_check_value : crc16 [0x31, 0x32, 0x33, 0x34, 0x35, 0x36, 0x37, 0x38, 0x39] = 0x29B1#16 := by decide +kernel

/-- 13.6: the sample decodings and the ends of the ranges of the table. -/
theorem test_duration_codes :
    [0, 1, 62, 120, 121, 130, 200, 201, 254].map duration = [0, 5, 310, 600, 660, 1200, 5400, 6000, 37800] := by decide +kernel

/-- 13.6: an unlimited duration is reached by none of the station's clocks. -/
theorem test_unlimited_is_not_reached : duration 255 = unlimited ∧ 65535 < duration 255 := by decide +kernel

/-! ### A station for the tests -/

def recipe : Recipe :=
  { presentMark := 1, minHeads := 2, loadsCount := 3, maxWait := 24, fillLevel := 2, fillRate := 300, fillFloor := 50,
    target := 400, allowance := 10, cover := 40, fillStir := 20, fillLimit := 8, doseTime := 24, mixTime := 24,
    mixSpeed := 400, period := 6, minSlope := 40, multiplier := 37, tMin := 140, tFallback := 150, tMax := 160,
    cutSpeed := 200, cutDuration := 60, rampTime := 12, stirSpeed := 500, stirTime := 130, pressLevel := 1, stageCount := 2,
    stages := [{ pressure := 120, rate := 40, hold := 12 }, { pressure := 200, rate := 60, hold := 12 }] }

def headerPool : PoolSettings :=
  { capacity := 1000, fullScale := 1000, lowEnter := 200, lowLeave := 250, starvedEnter := 100, starvedLeave := 150 }

/-- A recipe whose knives are covered, and whose target is met, at the START. -/
def bare : Recipe := { recipe with cover := 0, target := 10 }

def config : RunConfig :=
  { stationNumber := 8, localSlot := 1, peerTimeout := 5, milk := headerPool, air := headerPool,
    lines := { meter := 1, turn := 1, loadDone := 1, start := 1, reverseDwell := 4, sense := Four.all 0 },
    fill := { pulseVolume := 100, rampStep := 50, gain := 32 },
    press := { fitted := 4, rampAir := 150, kf := 64, kp := 32, holdBand := 15, holdFaultTime := 20, failLimit := 3,
               guardMode := 0 },
    alertLevels := List.replicate 19 0, recipes := Four.all recipe }

def batch : BatchRecord := openingRecord 70 1 5 none

/-- A station in READY with no batch, its port served. -/
def ready : State :=
  { State.reset with
    config := some config
    start := { State.reset.start with mode := .ready, causes := [] }
    port := { State.reset.port with mode := .waiting } }

/-- The same station in a step and phase of batch 70. -/
def vat (step : Step) (phase : Phase) : State :=
  ready.setSeq { ready.seq with step := step, phase := phase, current := .opened batch, counter := 70 }

/-- Held by the reasons that `f` adds. -/
def holdBy (f : HoldSet → HoldSet) (s : State) : State := s.setSeq { s.seq with hold := f s.seq.hold }

def byOrder (h : HoldSet) : HoldSet := { h with order := true }

def withFill (f : FillState → FillState) (s : State) : State := s.setFill (f s.fill)

def withCoag (f : CoagState → CoagState) (s : State) : State := s.setCoag (f s.coag)

def withKnife (f : KnifeState → KnifeState) (s : State) : State := s.setKnife (f s.knife)

def withLines (f : Lines → Lines) (s : State) : State := s.setLines (f s.lines)

def faulty (s : State) : State := withLines (fun l => { l with driveFault := true }) s

def withLink (f : LinkState → LinkState) (s : State) : State := s.setLink (f s.link)

def withMilk (f : PoolState → PoolState) (s : State) : State := s.setMilk (f s.milk)

def withHead (f : Head → Head) (s : State) : State := s.setHead 0 (f (s.head 0))

def withPort (f : PortState → PortState) (s : State) : State := s.setPort (f s.port)

def withMode (m : Mode) (s : State) : State := s.setStart { s.start with mode := m }

def load (n : Nat) : Load :=
  { sequence := n, batchNumber := 70, slot := 1, madeTime := 5, waitedMs := 0,
    flags := { late := false, underpressure := false, guardAbort := false, estop := false } }

def alert (k : AlertKind) (level : Nat) : AlertRecord :=
  { kind := k, level := level, batchNumber := 70, step := .filling, detail := 0, firstRaised := 5, repeats := 255 }

def withAlerts (l : List AlertRecord) (s : State) : State := s.setAlerts { pending := l, beacon := beaconOf l }

def claim (level : Nat) (holding : Bool) (waited request floor : Nat) : Claim :=
  { level := level, holding := holding, waited := waited, request := request, floor := floor }

def reported (milkBand : Band) (milkClaim : Option Claim) : Reported :=
  { role := .vat, ready := true, batchNumber := 0, step := .idle, held := false, milkBand := milkBand, airBand := .normal,
    usableHeads := 4, highest := none, milkClaim := milkClaim, airClaim := none }

def peer (n : Nat) (live : Bool) (ageMs : Nat) (milkBand : Band) (milkClaim : Option Claim) : PeerRecord :=
  { number := n, live := live, lastSeq := 43, missed := 1, ageMs := ageMs, reported := reported milkBand milkClaim }

def withPeers (l : List PeerRecord) (s : State) : State := s.setPeers { s.peers with records := l }

/-- Whether a command on a state answers a next state of which `f` holds. -/
def after (i : Instr) (s : State) (f : State → Bool) : Bool :=
  match exec i s with
  | .next t => f t
  | .fault _ => false
  | .refused _ => false

/-! ### Worked examples of the link and the pools -/

/-- Chapter 1, backoff after a collision: k of stations 5 and 12 at one collision, and of station 5 at two to seven. -/
theorem test_backoff_slots :
    backoffSlots 5 1 = 12 ∧ backoffSlots 12 1 = 19 ∧ [2, 3, 4, 5, 6, 7].map (backoffSlots 5) = [19, 26, 1, 8, 15, 22] := by
  decide +kernel

/-- Chapter 2, one peer through its life: a REPORT with sequence 0 after 43 adds 212. -/
theorem test_missed_after_restart :
    ((peer 5 true 0 .normal none).track 0).missed = 213 ∧ ((peer 5 true 0 .normal none).track 0).lastSeq = 0 := by decide +kernel

def roomClaims (milkBand : Band) : State :=
  withPeers [peer 3 true 0 .normal (some (claim 2 true 60 400 150)), peer 5 true 0 .normal (some (claim 2 false 12 500 200)),
      peer 7 true 0 milkBand none, peer 12 true 0 .normal (some (claim 1 false 30 300 300))]
    (withMilk (fun m => { m with
      own := some { level := 1, request := 450, floor := 100, waited := 30, stepMs := 0 }
      carried := some (claim 1 false 30 450 100) }) ready)

/-- Chapter 3, the walk and the derate: with peer 7 LOW the own grant is 0 at rank 3 of 4. -/
theorem test_walk_derated :
    (reckon config .milk (roomClaims .low)).milk.grant = 0
      ∧ (reckon config .milk (roomClaims .low)).milk.last
          = { derate := 6, effective := 750, rank := 3, candidates := 4, remainder := 0 } := by decide +kernel

/-- The same with peer 7 NORMAL: the own grant is 100. -/
theorem test_walk_full :
    (reckon config .milk (roomClaims .normal)).milk.grant = 100
      ∧ (reckon config .milk (roomClaims .normal)).milk.last
          = { derate := 8, effective := 1000, rank := 3, candidates := 4, remainder := 0 } := by decide +kernel

/-! ### Worked examples of the vat -/

def filling (q duty window grant : Nat) : State :=
  withFill (fun f => { f with qCmd := q, duty := duty, window := window, grant := grant, spanOpen := true, noPulse := 0 })
    (vat .filling .flow)

/-- Chapter 5, ramping a fill: fill seconds 2 and 5. -/
theorem test_fill_second_2 :
    after .fillSecond (filling 50 25 2 300) (fun t => t.fill.qMeas == 12 && t.fill.qCmd == 100 && t.fill.duty == 69) = true := by
  decide +kernel

theorem test_fill_second_5 :
    after .fillSecond (filling 150 190 19 150) (fun t => t.fill.qMeas == 114 && t.fill.qCmd == 150 && t.fill.duty == 208)
      = true := by decide +kernel

/-- Chapter 5: a grant below the flow command becomes the command at once, and the duty stays. -/
theorem test_grant_cut :
    ((filling 200 190 0 300).fill.takeGrant 150).qCmd = 150 ∧ ((filling 200 190 0 300).fill.takeGrant 150).duty = 190 := by decide +kernel

/-- R116: a CUT NOW at set-clock second 1200, before its SET_CLOCK_SECOND is taken, is at 1200 s, as after it. -/
theorem test_cut_now_at_its_second :
    [1199, 1200].map (fun clock => after (.orderCutNow 20 0 5)
      (withCoag (fun m => { m with state := .watch, clock := clock, secondFallen := clock == 1199 }) (vat .setting .quiet))
      (fun t => t.coag.cutAt == some 1200 && (openRecord t).map BatchRecord.cutTime == some 1200)) = [true, true] := by
  decide +kernel

/-- R119 and R185: with 255 in T_FALLBACK or T_MAX, an unlimited time, the field itself is the first out of range. -/
theorem test_unlimited_times_are_named :
    [(27, 20), (28, 21)].map (fun x => rangeFault 8 ((defaultContents 8).set x.1 255) == x.2) = [true, true] := by
  decide +kernel

/-- Table 5-2: with a target of 400 L a close allowance of 400 L is field 9 out of range and a cover of 401 L field 10;
399 L and 400 L are in range. -/
theorem test_fill_figures_are_named :
    let named := fun allowance cover => firstBad 1 (recipeChecks
      ((((recipeFields recipe ++ List.replicate 12 0).set 7 400).set 8 allowance).set 9 cover))
    [named 400 40, named 399 40, named 10 401, named 10 400] = [9, 0, 10, 0] := by
  decide +kernel

/-- R12: a trailing run is counted once, and one that follows an own collision within the run gap is none. -/
theorem test_trailing_run :
    (after (.runFramingError { idleMicros := 100, fault := .trailingRun })
      (withLink (fun l => { l with receive := .judged }) ready) fun t => t.link.framingErrors == 1 && t.link.receive == .ignoring)
    ∧ after (.runFramingError { idleMicros := 100, fault := .noSync }) ready (fun t => t.link.framingErrors == 0) = true := by
  decide +kernel

def longFill : Recipe := { recipe with target := 12000, allowance := 40 }

/-- Chapter 5, the end of a fill: an overrun of -6100 mL is recorded as -6 L. -/
theorem test_settle_records_overrun :
    after .settleEnd
      (withFill (fun f => { f with totaliser := 11993900, settle := 5 })
        ((vat .filling .settle).setConfig (some { config with recipes := Four.all longFill })))
      (fun t => (openRecord t).map (fun r => (r.filled, r.overrun)) = some (11993900, -6)) = true := by decide +kernel

/-- Chapter 6, finding the flocculation point: the sample at k = 142, whose slope is 53, detects and reckons 2192. -/
theorem test_detection :
    after (.sampleComplete 1150)
      (withCoag (fun m => { m with
        state := .armed, clock := 978, quietStart := 120, index := 142, window := [1097, 1116, 1132, 1146],
        readings := List.replicate 7 1150, peak := 72, peakIndex := 139 }) (vat .setting .quiet))
      (fun t => t.coag.flocTime == some 948 && t.coag.detectTime == some 978 && t.coag.cutAt == some 2192) = true := by decide +kernel

/-- Chapter 6, other recipe figures: the four rows' clamps of a flocculation time of 948 s. -/
theorem test_clamps :
    clampCut { recipe with tMin := 150 } 948 = (2400, .clampedMin)
      ∧ clampCut { recipe with multiplier := 64 } 948 = (3000, .clampedMax)
      ∧ clampCut { recipe with multiplier := 16, tMin := 125 } 948 = (948, .predicted)
      ∧ clampCut recipe 948 = (2192, .predicted) := by decide +kernel

def stirring (cut stir elapsed : Nat) : State :=
  (withKnife (fun k => { k with
      state := .running, run := true, job := some { kind := .stir, speed := cut }, speed := cut, rampElapsed := elapsed })
    (vat .stirring .ramp)).setConfig
    (some { config with recipes := Four.all { recipe with cutSpeed := cut, stirSpeed := stir } })

/-- Chapter 7: the rising ramp at 20 s, and the falling ramp at 7 s. -/
theorem test_ramp_rises : after .driveSecond (stirring 200 500 19) (fun t => t.knife.speed == 300) = true := by decide +kernel
theorem test_ramp_falls : after .driveSecond (stirring 600 350 6) (fun t => t.knife.speed == 571) = true := by decide +kernel

/-- Chapter 9, HOLD at 1200 tenths with 1150 measured: duty 325, shown as 675 with the valve inverted. -/
theorem test_press_duty :
    ({ Head.init with state := .hold, target := 1200, pressure := 1150 } : Head).dutyDue config = 325
      ∧ senseLevel true 325 = 675 := by decide +kernel

/-- Chapter 9, three rising heads: press second 2 of head 1. -/
theorem test_press_ramp :
    let hd := ({ Head.init with state := .ramp, target := 6, accumulator := 40 } : Head).stepRamp 1200 40
    hd.target = 13 ∧ hd.accumulator = 20 := by decide +kernel

/-- Chapter 10, a fill and a stall: a METER_FAULT of level 3 lights the fast beacon and holds the vat by METER and ALERT. -/
theorem test_meter_fault_level_3 :
    after .meterFault
      ((withFill (fun f => { f with qCmd := 150, noPulse := 5, grant := 150 }) (vat .filling .flow)).setConfig
        (some { config with alertLevels := List.replicate 19 3 }))
      (fun t => t.alerts.beacon == .fast && t.seq.hold.meter && t.seq.hold.alert
        && t.alerts.pending.map (fun r => (r.kind, r.detail)) == [(.meterFault, 150)]) = true := by decide +kernel

/-! ### Hypotheses met: the link, the peers and the pools -/

def order (dest : Byte) : List Byte := let inner := [20, dest, 2, 9, 3, 2, 0, 5]; 0x7E :: inner ++ crcBytes inner

def flying (attempts : Nat) (sending : Bool) : State :=
  let f : Flight :=
    { frame := { kind := .alert, dest := 0, body := [1] }, seq := 255, attempts := attempts, sending := sending }
  withLink (fun l => { l with flight := some f }) ready

def queued : State := withLink (fun l => { l with queue := [{ kind := .status, dest := 0, body := [1] }], nextSeq := 255 }) ready

theorem witness_FrontCommandRuns : (ready.setPending [.fillSecond, .mixEnd]).pending = .fillSecond :: [.mixEnd] := rfl

theorem witness_IdleStepIsMillisecond :
    ready.pending = [] ∧ ready.start.mode ≠ .starting ∧ (withMode .listen ready).start.mode = .listen
      ∧ State.reset.config = none ∧ ready.config = some config
      ∧ (ready.setStart { ready.start with stationMs := 999 }).start.stationMs + 1 = 1000 := by decide +kernel

theorem witness_OrdersNotTaken :
    State.reset.config = none ∧ ready.config = some config ∧ (withMode .listen ready).start.mode = .listen
      ∧ ready.start.mode = .ready ∧ (withMode .mute ready).start.mode = .mute ∧ (0#8).toNat = 0 ∧ 8 ≤ (8#8).toNat := by decide +kernel

theorem witness_RunJudgement :
    ready.config = some config ∧ receiving ready = true ∧ 300 < 301 ∧ (flying 0 true).link.sending = true
      ∧ ([] : List Byte).length ≤ 48 ∧ (List.replicate 48 0#8).length ≤ 48
      ∧ [0#8, 0#8] ≠ crcBytes [20, 0, 9, 0, 0] ∧ (withLink (fun l => { l with tally := 30 }) ready).link.tally < 31
      ∧ (0#8).toNat < 1 ∧ 32 < (33#8).toNat ∧ lengthAllowed 2 4 = false
      ∧ 1 ≤ (32#8).toNat ∧ (32#8).toNat ≤ 32 ∧ lengthAllowed 1 25 = true ∧ lengthAllowed 6 0 = true := by decide +kernel

theorem witness_LinkErrorTally :
    receiving ready = true ∧ ready.link.tally < 31 ∧ RunFault.gap ≠ .trailingRun
      ∧ (withLink (fun l => { l with receive := .judged }) ready).link.receive = .judged ∧ 300 ≤ 300
      ∧ ¬ ready.link.receive = .judged ∧ 31 ≤ (withLink (fun l => { l with tally := 31 }) ready).link.tally
      ∧ receiving (withLink (fun l => { l with tally := 31 }) ready) = true ∧ 300 < 301 ∧ [0#8, 0#8] ≠ crcBytes [20, 0, 9, 0, 0]
      ∧ 32 < (33#8).toNat ∧ lengthAllowed 2 4 = false ∧ (flying 0 true).link.sending = true
      ∧ (withLink (fun l => { l with tally := 32, lastError := some .crc }) ready).link.lastError = some .crc := by decide +kernel

theorem witness_ValidFrameTaken :
    receiving ready = true ∧ receiving (withMode .mute ready) = true ∧ (0#8).toNat = 0 ∧ 8 ≤ (8#8).toNat
      ∧ judgeRun (order 9) = .valid { sender := 20, dest := 9, kind := 2, seq := 9, body := [2, 0, 5] }
      ∧ judgeRun (order 8) = .valid { sender := 20, dest := 8, kind := 2, seq := 9, body := [2, 0, 5] }
      ∧ judgeRun (order 0) = .valid { sender := 20, dest := 0, kind := 2, seq := 9, body := [2, 0, 5] } := by decide +kernel

def ownFrame : List Byte := let inner := [8, 0, 3, 9, 3, 1, 0, 0]; 0x7E :: inner ++ crcBytes inner

theorem witness_NumberClashMutes :
    receiving (withMode .listen ready) = true ∧ receiving ready = true
      ∧ judgeRun ownFrame = .valid { sender := 8, dest := 0, kind := 3, seq := 9, body := [1, 0, 0] }
      ∧ config.stationNumber = 8 ∧ isPending .numberClash ready = false := by decide +kernel

theorem witness_TransmitQueue :
    queued.link.queue[0]? = some { kind := .status, dest := 0, body := [1] }
      ∧ (queued.link.queue.filter fun x => x.kind = .status).length ≤ 1 ∧ ready.link.queue.length < 6
      ∧ (∀ g ∈ ready.link.queue, g.kind ≠ .status)
      ∧ 6 ≤ (withLink (fun l => { l with queue := List.replicate 6 { kind := .alert, dest := 0, body := [] } }) ready).link.queue.length
      ∧ (withMode .setupOnly ready).start.mode = .setupOnly := by decide +kernel

theorem witness_TransmissionAttempts :
    queued.link.flight = none ∧ queued.link.queue = { kind := .status, dest := 0, body := [1] } :: []
      ∧ (withMode .listen queued).link.opening = false ∧ (flying 6 true).link.flight.map Flight.attempts = some 6
      ∧ 8 ≤ 7 + 1 ∧ (flying 7 true).link.flight.map Flight.sending = some true
      ∧ (flying 8 false).link.flight.map Flight.attempts = some 8
      ∧ 1000 + 500 * (((8 - 1) + 7 * 1) % 32 + 1) = 8500 ∧ (flying 1 false).link.flight.map Flight.sending = some false := by
  decide +kernel

theorem witness_StatusBuilt :
    ready.start.mode = .ready ∧ 1000 ≤ (withLink (fun l => { l with sinceBuildMs := 1000 }) ready).link.sinceBuildMs
      ∧ (withLink (fun l => { l with sinceBuildMs := 100, changed := true }) ready).link.changed = true
      ∧ (withLink (fun l => { l with sinceBuildMs := 99, changed := true }) ready).link.sinceBuildMs < 100
      ∧ (withMode .listen (withLink (fun l => { l with opening := true, openingMs := 1000 }) ready)).link.opening = true
      ∧ statusClaim (roomClaims .low) .milk = (roomClaims .low).milk.carried
      ∧ statusClaim (roomClaims .low) .milk ≠ (withMilk (fun m => { m with carried := none }) (roomClaims .low)).milk.carried
      ∧ statusContents ready ≠ statusContents (vat .filling .flow) ∧ (vat .filling .flow).start.mode ≠ .starting
      ∧ ready.milk.own = none ∧ (roomClaims .low).milk.own ≠ none
      ∧ highestLevel (withAlerts [alert .estop 3, alert .loadLate 0] ready) = some 3 ∧ highestLevel ready = none := by
  decide +kernel

def statusFrame (body : List Byte) : RxFrame := { sender := 5, dest := 0, kind := 1, seq := 40, body := body }

theorem witness_PeerFrames :
    findPeer 5 (withPeers [peer 5 true 0 .normal none] ready).peers.records = some (peer 5 true 0 .normal none)
      ∧ (peer 5 true 0 .normal none).lastSeq ≤ 255 ∧ findPeer 5 ready.peers.records = none
      ∧ parseStatus [1, 2, 0, 0, 0, 0, 0, 0, 4, 0xFF, 0] = some (reported .normal none)
      ∧ parseStatus [1, 2, 0, 0, 0, 0, 0, 0, 5, 0xFF, 0] = none ∧ (statusFrame []).kind = 1
      ∧ ¬ ({ statusFrame [] with kind := 3 } : RxFrame).kind = 1
      ∧ 4 ≤ (reported .normal none).usableHeads ∧ (claim 3 true 255 4000 4000).level ≤ 3
      ∧ parseStatus [1, 1, 0xFF, 0xFF, 6, 1, 2, 1, 4, 3, 2, 3, 1, 255, 0x0F, 0xA0, 0x0F, 0xA0] ≠ none
      ∧ parseStatus [1, 1, 0xFF, 0xFF, 6, 1, 2, 1, 4, 3, 2, 3, 1, 255, 0x0F, 0xA0, 0x0F, 0xA1] = none
      ∧ parseStatus [1, 1, 0xFF, 0xFF, 6, 1, 2, 1, 4, 3, 3, 3, 1, 255, 0x0F, 0xA0, 0x0F, 0xA0] = none := by decide +kernel

theorem witness_PeersAge :
    findPeer 5 (withPeers [peer 5 true 5000 .normal none] ready).peers.records = some (peer 5 true 5000 .normal none)
      ∧ config.peerTimeout * 1000 ≤ (peer 5 true 5000 .normal none).ageMs
      ∧ (peer 5 true 4999 .normal none).ageMs < config.peerTimeout * 1000
      ∧ 60000 ≤ (peer 5 false 60000 .normal none).ageMs ∧ (peer 5 false 59999 .normal none).ageMs < 60000
      ∧ contribution .milk (some (peer 5 true 0 .low none)) ≠ contribution .milk none
      ∧ contribution .air (some (peer 5 true 0 .low none)) = contribution .air none := by decide +kernel

theorem witness_BandSampled :
    ready.config = some config ∧ ¬ (2048#12 = 0#12 ∨ 2048#12 = 4095#12)
      ∧ 2 ≤ (withMilk (fun m => { m with sensorRun := 2 }) ready).milk.sensorRun
      ∧ (withMilk (fun m => { m with degraded := true, band := .low, goodRun := 2 }) ready).milk.degraded = true
      ∧ ready.milk.sensorRun < 2
      ∧ after (.bandSample 600 2048) (withMilk (fun m => { m with belowLow := 2 }) ready)
          (fun t => decide (t.milk.band ≠ .normal ∧ t.seq.hold = ready.seq.hold)) = true
      ∧ after (.bandSample 0 2048) (withMilk (fun m => { m with sensorRun := 2, band := .low }) ready)
          (fun t => decide (t.milk.band = .low ∧ t.milk.degraded = true)) = true := by decide +kernel

theorem witness_BandEvents :
    nextBand (withMilk (fun m => { m with belowLow := 3 }) ready).milk = some .low
      ∧ nextBand (withMilk (fun m => { m with belowStarved := 3 }) ready).milk = some .starved ∧ nextBand ready.milk = none
      ∧ (withMilk (fun m => { m with sensorRun := 3 }) ready).milk.sensorRun = 3 ∧ ready.milk.degraded = false
      ∧ (withMilk (fun m => { m with degraded := true, band := .low, goodRun := 3 }) ready).milk.goodRun = 3 := by decide +kernel

theorem witness_CapacityAndRanking :
    (withMilk (fun m => { m with band := .starved }) ready).milk.band = .starved ∧ (roomClaims .low).milk.band = .normal
      ∧ (peer 7 true 0 .low none).reported.band .milk = .low ∧ (config.pool .milk).capacity = 1000
      ∧ ((peerCandidates .milk (roomClaims .low).peers.records).map Candidate.number).Nodup := by decide +kernel

theorem witness_WalkTurns :
    (∀ x ∈ ([{ number := 3, claim := claim 2 true 60 400 150 }] : List Candidate), x.number ≠ 8)
      ∧ ({ number := 8, claim := claim 1 false 30 450 100 } : Candidate).number = 8 := by decide +kernel

theorem witness_ReckoningOfAPool :
    (roomClaims .low).start.mode = .ready ∧ (roomClaims .low).milk.carried = some (claim 1 false 30 450 100)
      ∧ (roomClaims .low).milk.own ≠ none ∧ ready.milk.own = none
      ∧ (withFill (fun f => { f with qCmd := 300 }) ready).fill.qCmd = 300 ∧ (299 : Nat) < 300 ∧ ready.fill.qCmd ≤ 0 := by
  decide +kernel

def waiting (stepMs : Nat) : State :=
  withMilk (fun m => { m with
    own := some { level := 1, request := 450, floor := 100, waited := 255, stepMs := stepMs }, grant := 300 }) ready

theorem witness_ClaimsPresented :
    (waiting 10000).milk.own = some { level := 1, request := 450, floor := 100, waited := 255, stepMs := 10000 }
      ∧ (waiting 9999).milk.own = some { level := 1, request := 450, floor := 100, waited := 255, stepMs := 9999 }
      ∧ ready.milk.own = none ∧ (0 : Nat) < 1 ∧ ready.fill.grant = ready.milk.grant := by decide +kernel

/-! ### Hypotheses met: the sequencer -/

def allOut : State := ready.setPress { ready.press with heads := ready.press.heads.map fun _ => { Head.init with state := .out } }

def headsFree : State := ready.setPress { ready.press with heads := ready.press.heads.map fun _ => { Head.init with state := .free } }

theorem witness_StartVerdict :
    (withMode .listen ready).start.mode ≠ .ready ∧ (vat .filling .flow).seq.step ≠ .idle
      ∧ (withLines (fun l => { l with estop := true }) ready).lines.estop = true ∧ config.recipe 1 = some recipe
      ∧ config.recipe 4 = some recipe ∧ config.recipe 0 = none ∧ config.recipe 5 = none ∧ recipe.isPresent = true
      ∧ usableHeads allOut < recipe.minHeads ∧ recipe.minHeads ≤ usableHeads headsFree := by decide +kernel

theorem witness_BatchOpens :
    ready.seq.counter ≤ 65535 ∧ (ready.setSeq { ready.seq with counter := 65535 }).seq.counter ≤ 65535 ∧ ready.milk.own = none
      ∧ (0 < recipe.cover ∧ recipe.allowance < recipe.target)
      ∧ (0 < bare.fillStir ∧ bare.cover = 0 ∧ bare.target ≤ bare.allowance)
      ∧ (ready.lines.hold || levelThreePending ready) = false ∧ ready.fill.stirJob = false ∧ ready.lines.driveFault = false
      ∧ (faulty ready).lines.driveFault = true ∧ isPending .knifeDriveFault (faulty ready) = false
      ∧ levelThreePending (withAlerts [alert .estop 3] ready) = true
      ∧ (withLines (fun l => { l with hold := true }) ready).lines.hold = true := by decide +kernel

/-- R91: a START with cover volume 0 stirs from its first event, and with DRIVE FAULT active it begins held by KNIFE. -/
theorem test_start_covered :
    (openBatch config 1 bare ready).fill.stirJob = true ∧ (openBatch config 1 bare (faulty ready)).seq.hold.knife = true := by
  decide +kernel

/-- R92: the target check is made on entry into FLOW, also one that begins held; SETTLE then begins held. -/
theorem test_start_held_at_target :
    (openBatch config 1 bare (withLines (fun l => { l with hold := true }) ready)).seq.phase = .settle
      ∧ (openBatch config 1 recipe (withLines (fun l => { l with hold := true }) ready)).seq.phase = .flow := by
  decide +kernel

theorem witness_StartAndHoldLines :
    config.localSlot ≠ 0 ∧ countsEdge config.lines.start true = true ∧ countsEdge config.lines.start false = false
      ∧ (match startCheck config 1 headsFree with | .ok r => decide (r = recipe) | .error _ => false) = true
      ∧ (match startCheck config 1 allOut with | .ok _ => false | .error v => decide (v = .refusedHeads)) = true
      ∧ ready.lines.hold = false ∧ (withLines (fun l => { l with hold := true }) ready).lines.hold = true
      ∧ held (holdBy byOrder (vat .filling .flow)) = true ∧ held ready = false
      ∧ held (holdBy (fun h => { h with line := true }) (vat .filling .flow)) = true := by decide +kernel

theorem witness_HoldAndClearOrders :
    ready.seq.step = .idle ∧ (vat .filling .flow).seq.step ≠ .idle
      ∧ (holdBy byOrder (vat .filling .flow)).seq.hold.order = true ∧ (vat .stopped .none).seq.step = .stopped
      ∧ (vat .stopped .none).lines.estop = false
      ∧ (withLines (fun l => { l with estop := true }) (vat .stopped .none)).lines.estop = true := by decide +kernel

theorem knifeSound_vat (step : Step) (phase : Phase) : KnifeSound (vat step phase) := ⟨rfl, nofun, fun _ => rfl⟩

def jobbed (kind : JobKind) (step : Step) (phase : Phase) : State :=
  withKnife (fun k => { k with
    state := .running, run := true, job := some { kind := kind, speed := 300 }, speed := 300, reverse := kind.direction })
    (vat step phase)

theorem knifeSound_jobbed (kind : JobKind) (step : Step) (phase : Phase) : KnifeSound (jobbed kind step phase) :=
  ⟨rfl, fun _ => nofun, nofun⟩

theorem witness_HeldValues :
    (vat .filling .flow).seq.step.holdable = true ∧ (vat .filling .flow).seq.hold.has .meter = false
      ∧ held (holdBy byOrder (vat .filling .flow)) = true ∧ held (jobbed .fillStir .filling .flow) = false
      ∧ (jobbed .mix .setting .mix).knife.job = some { kind := .mix, speed := 300 }
      ∧ (jobbed .stir .stirring .run).seq.step = .stirring ∧ ready.seq.step.holdable = false
      ∧ (holdBy byOrder (vat .filling .flow)).seq.hold.has .order = true := by decide +kernel

theorem witness_ResumeOrder :
    held ready = false ∧ held (holdBy byOrder (vat .filling .flow)) = true
      ∧ levelThreePending (withAlerts [alert .estop 3] ready) = true
      ∧ ({ order := false, line := true, alert := false, meter := false, knife := false } : HoldSet).held = true
      ∧ HoldSet.clear.held = false := by decide +kernel

def poured (millilitres : Nat) : State :=
  withFill (fun f => { f with totaliser := millilitres, spanOpen := true }) (vat .filling .flow)

theorem witness_Released :
    batchRecipe config (vat .filling .flow) = some recipe ∧ held (vat .filling .flow) = false
      ∧ targetReached recipe (vat .filling .flow) = false ∧ coverPassed recipe (vat .filling .flow) = false
      ∧ (vat .filling .flow).milk.own = none ∧ 0 < recipe.fillRate ∧ 0 < recipe.mixSpeed
      ∧ coverPassed recipe (vat .filling .settle) = false ∧ coverPassed recipe (vat .filling .dose) = false
      ∧ (withCoag (fun m => { m with state := .mix }) (vat .setting .mix)).coag.state = .mix
      ∧ (withCoag (fun m => { m with state := .watch }) (vat .setting .quiet)).coag.state = .watch
      ∧ (withCoag (fun m => { m with state := .due, clock := 2230, dueAt := 2192 }) (vat .setting .quiet)).coag.state = .due
      ∧ (vat .stirring .run).seq.phase ≠ .dwell ∧ (vat .moulding .none).seq.step = .moulding
      ∧ batchRecipe config (vat .moulding .none) = some recipe ∧ (vat .cutting .none).lines.driveFault = false
      ∧ coverPassed recipe (poured 40000) = true ∧ targetReached recipe (poured 390000) = true
      ∧ targetReached recipe (poured 389999) = false ∧ (faulty (vat .cutting .none)).lines.driveFault = true
      ∧ coverPassed recipe (faulty (poured 40000)) = true := by decide +kernel

theorem unloaded_vat (step : Step) (phase : Phase) : unloaded (vat step phase) := by
  rintro (h | h) <;> cases h

theorem history_vat (step : Step) (phase : Phase) : (vat step phase).store.history = [] := rfl

theorem fillSound_vat (step : Step) (phase : Phase) : FillSound (vat step phase) :=
  { unloaded := unloaded_vat step phase, grant := rfl, command := Nat.le_refl 0,
    flow := fun h => absurd h (Nat.lt_irrefl 0), duty := Nat.zero_le 1000, shut := fun _ => rfl, pump := nofun,
    starting := nofun }

theorem historySound_of_nil (s : State) (h : s.store.history = []) : HistorySound s :=
  { oneNumber := by simp [h], atMostEight := by simp [h], increasing := by simp [h] }

theorem historySound_vat (step : Step) (phase : Phase) : HistorySound (vat step phase) :=
  historySound_of_nil _ (history_vat step phase)

theorem witness_VatStops :
    openRecord (vat .filling .flow) = some batch ∧ batch.laneClosed = false ∧ batch.pressed = batch.made
      ∧ ({ batch with made := 1 } : BatchRecord).pressed ≠ ({ batch with made := 1 } : BatchRecord).made
      ∧ FillSound (vat .filling .flow) ∧ KnifeSound (vat .filling .flow) ∧ HistorySound (vat .filling .flow)
      ∧ openRecord (vat .setting .quiet) = some batch ∧ (vat .setting .quiet).seq.step = .setting
      ∧ FillSound (vat .setting .quiet) ∧ KnifeSound (vat .setting .quiet) ∧ HistorySound (vat .setting .quiet) :=
  ⟨by decide, by decide, by decide, by decide, fillSound_vat _ _, knifeSound_vat _ _, historySound_vat _ _, by decide,
    by decide, fillSound_vat _ _, knifeSound_vat _ _, historySound_vat _ _⟩

theorem witness_AbortAndCutNow :
    (vat .setting .quiet).seq.step = .setting ∧ batchRecipe config (vat .setting .quiet) = some recipe
      ∧ openRecord (vat .setting .quiet) = some batch ∧ held (vat .setting .quiet) = false
      ∧ held (holdBy byOrder (vat .setting .quiet)) = true ∧ (vat .filling .flow).seq.step ≠ .setting
      ∧ (vat .stopped .none).seq.step = .stopped ∧ (vat .setting .quiet).lines.driveFault = false
      ∧ (faulty (vat .setting .quiet)).lines.driveFault = true ∧ isPending .knifeDriveFault (vat .setting .quiet) = false
      ∧ isPending .knifeDriveFault (withAlerts [alert .knifeDriveFault 2] (vat .setting .quiet)) = true
      ∧ (jobbed .mix .setting .mix).knife.state = .running ∧ 1 ≤ config.lines.reverseDwell
      ∧ ({ config with lines := { config.lines with reverseDwell := 0 } } : RunConfig).lines.reverseDwell = 0 := by decide +kernel

theorem witness_EstopLine :
    ready.lines.estop = false ∧ (withLines (fun l => { l with estop := true }) ready).lines.estop = true
      ∧ (withHead (fun h => { h with state := .ramp, load := some (load 1) }) ready).head 0
          = { Head.init with state := .ramp, load := some (load 1) }
      ∧ (headsFree.head 3).state = .free ∧ (ready.head 0).state = .unfitted ∧ (vat .filling .flow).lines.estop = false
      ∧ (vat .filling .flow).seq.step.holdable = true ∧ openRecord (vat .filling .flow) = some batch
      ∧ FillSound (vat .filling .flow) ∧ KnifeSound (vat .filling .flow) ∧ HistorySound (vat .filling .flow) :=
  ⟨by decide, by decide, by decide +kernel, by decide, by decide, by decide, by decide, by decide, fillSound_vat _ _,
    knifeSound_vat _ _, historySound_vat _ _⟩

/-- A station before its start: batch 70 was running, batch 68 waits for its load and the record between them is bad. -/
def stored : State :=
  State.reset.setStore { State.reset.store with
    checkpoint := Slot.settled { lastNumber := 70, record := some { batch with made := 2, pressed := 1 } }
    history := [Slot.settled { batch with number := 68, made := 1, outcome := .vatDone },
      { Slot.settled { batch with number := 69 } with good := false }] }

theorem witness_RecordWritesEnd :
    ((Slot.settled { lastNumber := 0, record := none } : Slot Checkpoint).write { lastNumber := 1, record := none }).inFlight
        = some { lastNumber := 1, record := none }
      ∧ State.reset.store.checkpoint.inFlight = none
      ∧ ((Slot.settled { failCount := 0, occupied := false } : Slot HeadRecord).write { failCount := 1, occupied := true }).inFlight
          = some { failCount := 1, occupied := true }
      ∧ (State.reset.store.headTable.get 0).inFlight = none
      ∧ (∀ x ∈ stored.store.history, x.latest.number = 68 → x.inFlight = none) := by decide +kernel

/-! ### Hypotheses met: the fill, the monitor and the knives -/

theorem witness_MeterCounts :
    countsEdge config.lines.meter false = false ∧ countsEdge config.lines.meter true = true
      ∧ batchRecipe config (poured 39800) = some recipe ∧ 39800 + 100 < recipe.cover * 1000
      ∧ 39900 < (recipe.target - recipe.allowance) * 1000
      ∧ (recipe.target - recipe.allowance) * 1000 ≤ (poured 389900).fill.totaliser + 100 ∧ ready.lines.driveFault = false
      ∧ recipe.cover * 1000 ≤ (poured 40000).fill.totaliser ∧ 0 < recipe.fillStir ∧ (poured 40000).fill.stirJob = false
      ∧ (recipe.target - recipe.allowance) * 1000 ≤ (poured 390000).fill.totaliser
      ∧ ¬ ((vat .filling .settle).seq.phase = .flow) ∧ recipe.cover * 1000 ≤ 39900 + 100
      ∧ (poured 39900).fill.stirJob = false ∧ held (poured 39900) = false
      ∧ (withFill (fun f => { f with stirJob := true }) (poured 40000)).fill.stirJob = true
      ∧ held (holdBy byOrder (poured 40000)) = true ∧ (faulty (poured 39900)).lines.driveFault = true
      ∧ held (holdBy byOrder (faulty (poured 389900))) = true
      ∧ (holdBy byOrder (faulty (poured 389900))).lines.driveFault = true
      ∧ (faulty (poured 389900)).lines.driveFault = true ∧ held (faulty (poured 389900)) = false := by decide +kernel

/-- R92: an edge that reaches the target held, with DRIVE FAULT active, ends FLOW; unheld, its fill stir faults first. -/
theorem test_target_edge_with_drive_fault :
    after (.meterEdge true) (holdBy byOrder (faulty (poured 389900))) (fun t => t.seq.phase == .settle && !t.seq.hold.knife)
      ∧ after (.meterEdge true) (faulty (poured 389900)) (fun t => t.seq.phase == .settle && t.seq.hold.knife) := by
  decide +kernel

theorem witness_FillSeconds :
    (vat .setting .mix).seq.step ≠ .filling ∧ held (holdBy byOrder (vat .filling .flow)) = true
      ∧ batchRecipe config (filling 50 25 2 300) = some recipe ∧ (filling 50 25 2 300).fill.noPulse < 4
      ∧ durationLimit recipe.fillLimit = some 40 ∧ min 65535 ((filling 50 25 2 300).fill.flowElapsed + 1) < 40
      ∧ 0 < min (filling 50 25 0 300).fill.grant ((filling 50 25 0 300).fill.qCmd + config.fill.rampStep)
      ∧ 4 ≤ (withFill (fun f => { f with noPulse := 4 }) (filling 50 25 0 300)).fill.noPulse
      ∧ 5 ≤ (withFill (fun f => { f with noPulse := 5 }) (filling 50 25 0 300)).fill.noPulse
      ∧ 40 ≤ (withFill (fun f => { f with flowElapsed := 40 }) (filling 50 25 0 300)).fill.flowElapsed
      ∧ (filling 50 25 0 300).fill.slowRaised = false
      ∧ 40 ≤ min 65535 ((withFill (fun f => { f with flowElapsed := 39 }) (filling 50 25 0 300)).fill.flowElapsed + 1)
      ∧ (withFill (fun f => { f with slowRaised := true }) (filling 50 25 0 300)).fill.slowRaised = true := by decide +kernel

theorem witness_SettleAndDose :
    openRecord (vat .filling .settle) = some batch ∧ held (vat .filling .settle) = false
      ∧ (withFill (fun f => { f with settle := 3 }) (vat .filling .settle)).fill.settle < 4
      ∧ 4 ≤ (withFill (fun f => { f with settle := 4 }) (vat .filling .settle)).fill.settle
      ∧ 5 ≤ (withFill (fun f => { f with settle := 5 }) (vat .filling .settle)).fill.settle
      ∧ (withFill (fun f => { f with dosed := 118 }) (vat .filling .dose)).fill.dosed + 1 < duration recipe.doseTime
      ∧ duration recipe.doseTime ≤ min 600 ((withFill (fun f => { f with dosed := 119 }) (vat .filling .dose)).fill.dosed + 1)
      ∧ duration recipe.doseTime ≤ (withFill (fun f => { f with dosed := 120 }) (vat .filling .dose)).fill.dosed
      ∧ 0 < duration recipe.mixTime ∧ duration { recipe with mixTime := 0 }.mixTime = 0
      ∧ (vat .filling .dose).lines.driveFault = false ∧ (faulty (vat .filling .dose)).lines.driveFault = true := by decide +kernel

def set (state : MonitorState) (clock mixTimer : Nat) : State :=
  withCoag (fun m => { m with state := state, clock := clock, mixTimer := mixTimer, ticking := true, cutAt := some 2192 })
    (vat .setting .quiet)

theorem witness_SetClockSeconds :
    batchRecipe config (set .mix 0 0) = some recipe ∧ openRecord (set .mix 0 0) = some batch
      ∧ (vat .setting .mix).coag.ticking = false ∧ (set .watch 2998 0).coag.clock + 1 < duration recipe.tMax
      ∧ (set .pending 2190 0).coag.clock + 1 < 2192 ∧ (set .due 2192 0).coag.state = .due
      ∧ held (holdBy byOrder (set .mix 0 0)) = true ∧ held (set .mix 0 0) = false
      ∧ (set .mix 100 118).coag.mixTimer + 1 < duration recipe.mixTime
      ∧ duration recipe.mixTime ≤ (set .mix 100 119).coag.mixTimer + 1
      ∧ duration recipe.mixTime ≤ (set .mix 100 120).coag.mixTimer
      ∧ duration recipe.tMax ≤ (set .armed 2999 0).coag.clock + 1 ∧ duration recipe.tMax ≤ (set .watch 3000 0).coag.clock
      ∧ duration recipe.tMax ≤ (set .mix 2999 119).coag.clock + 1
      ∧ 2192 ≤ (set .pending 2191 0).coag.clock + 1 ∧ (set .pending 2192 0).coag.cutAt = some 2192 := by decide +kernel

def sampled (state : MonitorState) (count rail : Nat) (window : List Nat) : State :=
  withCoag (fun m => { m with
    state := state, clock := 978, quietStart := 120, index := 142, window := window, readings := List.replicate count 1150,
    railRun := rail, peak := 72, peakIndex := 139 }) (vat .setting .quiet)

theorem witness_SamplesJudged :
    batchRecipe config (sampled .watch 6 0 []) = some recipe ∧ (sampled .watch 6 0 []).coag.readings.length < 7
      ∧ (sampled .watch 7 0 []).coag.clock = 120 + (142 + 1) * recipe.period
      ∧ ((sampled .watch 7 1 []).coag.readings.sum + 1150) / 8 = 1150 ∧ (sampled .watch 7 1 []).coag.railRun < 2
      ∧ ((sampled .armed 7 0 [1097, 1116, 1132, 1146]).coag.window ++ [1150]).length = 5
      ∧ (1150 : Int) - 1097 ≤ ((72 * 3 / 4 : Nat) : Int) ∧ ((72 * 3 / 4 : Nat) : Int) < (1150 : Int) - 1095
      ∧ (recipe.minSlope : Int) ≤ (1150 : Int) - 1110 ∧ (1150 : Int) - 1111 < recipe.minSlope ∧ (72 : Int) < 1150 - 1077 := by decide +kernel

theorem witness_FirmnessFault :
    openRecord (sampled .watch 7 2 []) = some batch ∧ 2 ≤ (sampled .watch 7 2 []).coag.railRun
      ∧ (withCoag (fun m => { m with readings := List.replicate 7 17 }) (sampled .watch 7 2 [])).coag.readings.sum = 119
      ∧ (119 + 16) / 8 ≤ 16 ∧ (sampled .watch 0 3 []).coag.railRun = 3 ∧ (sampled .watch 0 2 []).coag.railRun ≠ 3
      ∧ 978 < duration recipe.tFallback := by decide +kernel

def dwelling (offMs : Nat) (job : Option Job) : State :=
  withKnife (fun k => { k with state := .dwell, offMs := offMs, job := job }) (vat .stirring .dwell)

/-- Recipes without a ramp and a stir time. -/
def hasty : RunConfig := { config with recipes := Four.all { recipe with rampTime := 0, stirTime := 0 } }

def resting (offMs : Nat) (phase : Phase) : State :=
  withKnife (fun k => { k with state := .stopped, offMs := offMs }) (vat .stirring phase)

def emptyVat (s : State) : State := withLines (fun l => { l with vatEmpty := true }) s

theorem witness_DriveEvents :
    config.lines.reverseDwell * 1000 ≤ (dwelling 4000 none).knife.offMs
      ∧ (dwelling 4000 (some { kind := .mix, speed := 400 })).knife.state = .dwell
      ∧ (dwelling 4000 (some { kind := .stir, speed := 200 })).seq.step = .stirring ∧ held (dwelling 4000 none) = false
      ∧ (dwelling 3999 (some { kind := .stir, speed := 200 })).knife.offMs < config.lines.reverseDwell * 1000
      ∧ duration 0 = 0 ∧ (dwelling 4000 none).lines.vatEmpty = false
      ∧ (dwelling 4000 (some { kind := .stir, speed := 200 })).seq.phase = .dwell ∧ 0 < duration recipe.rampTime
      ∧ (dwelling 3999 none).knife.offMs < config.lines.reverseDwell * 1000
      ∧ 5000 ≤ (withKnife (fun k => { k with state := .starting, graceMs := 5000 }) ready).knife.graceMs
      ∧ (withKnife (fun k => { k with state := .starting, graceMs := 4999 }) ready).knife.graceMs < 5000
      ∧ countsEdge config.lines.turn false = false ∧ countsEdge config.lines.turn true = true
      ∧ 3000 ≤ (withKnife (fun k => { k with stallMs := 3000 }) (jobbed .stir .stirring .run)).knife.stallMs
      ∧ held (jobbed .stir .stirring .run) = false ∧ ready.knife.job = none ∧ ready.lines.driveFault = false
      ∧ (jobbed .stir .idle .none).seq.step.holdable = false ∧ isPending .knifeStall ready = false
      ∧ (resting 3999 .run).knife.state = .stopped ∧ ¬ config.lines.reverseDwell * 1000 ≤ (resting 3999 .run).knife.offMs
      ∧ config.lines.reverseDwell * 1000 ≤ (resting 4000 .dwell).knife.offMs ∧ (resting 4000 .dwell).seq.phase = .dwell
      ∧ batchRecipe config (resting 4000 .dwell) = some recipe ∧ (resting 4000 .run).seq.phase ≠ .dwell
      ∧ batchRecipe hasty (resting 4000 .dwell) = some { recipe with rampTime := 0, stirTime := 0 }
      ∧ openRecord (emptyVat (resting 4000 .dwell)) = some batch ∧ (emptyVat (resting 4000 .dwell)).lines.vatEmpty = true
      ∧ (jobbed .mix .setting .mix).knife.reverse = JobKind.direction .mix
      ∧ (jobbed .cut .stirring .dwell).knife.reverse ≠ JobKind.direction .stir
      ∧ (faulty (resting 4000 .dwell)).lines.driveFault = true
      ∧ (withKnife (fun k => { k with state := .faulted }) ready).knife.state = .faulted
      ∧ ((dwelling 4000 (some { kind := .stir, speed := 200 })).setSeq { ready.seq with step := .stirring, phase := .ramp }).seq.phase
          ≠ .dwell := by decide +kernel

theorem witness_KnifeProfile :
    batchRecipe config (jobbed .cut .cutting .none) = some recipe ∧ (jobbed .cut .cutting .none).knife.run = true
      ∧ held (jobbed .cut .cutting .none) = false ∧ (jobbed .cut .cutting .none).knife.reverse = .cut
      ∧ (jobbed .mix .setting .mix).knife.job = some { kind := .mix, speed := 300 }
      ∧ min 65535 (298 + 1) < duration recipe.cutDuration ∧ duration recipe.cutDuration ≤ min 65535 (299 + 1)
      ∧ 58 + 1 < duration recipe.rampTime ∧ duration recipe.rampTime ≤ 59 + 1 ∧ 0 < duration recipe.stirTime
      ∧ 1198 + 1 < duration recipe.stirTime ∧ duration recipe.stirTime ≤ 1199 + 1
      ∧ duration { recipe with stirTime := 0 }.stirTime = 0 ∧ ready.knife.state ≠ .running ∧ ready.knife.job = none
      ∧ (jobbed .stir .stirring .run).lines.vatEmpty = false ∧ (jobbed .stir .stirring .ramp).seq.phase = .ramp
      ∧ (emptyVat (jobbed .stir .stirring .run)).lines.vatEmpty = true
      ∧ openRecord (emptyVat (jobbed .stir .stirring .run)) = some batch ∧ 0 < recipe.loadsCount
      ∧ (faulty (jobbed .cut .cutting .none)).lines.driveFault = true := by decide +kernel

/-! ### Hypotheses met: the lane and the heads -/

def lane (queue filled : Nat) : State :=
  (vat .moulding .none).setQueue { ready.queue with
    loads := (List.range queue).map fun n => load (n + 1), counter := queue, filled := filled }

theorem witness_LoadsAndMoulding :
    countsEdge config.lines.loadDone false = false ∧ countsEdge config.lines.loadDone true = true
      ∧ (vat .stirring .run).seq.step ≠ .moulding ∧ batchRecipe config (lane 15 0) = some recipe
      ∧ openRecord (lane 15 0) = some batch ∧ (lane 15 0).queue.loads.length < 16 ∧ (lane 15 0).queue.counter < 4294967295
      ∧ min 24 ((lane 15 1).queue.filled + 1) < endFigure recipe ∧ 16 ≤ (lane 16 1).queue.loads.length
      ∧ 4294967295 ≤ ((lane 3 1).setQueue { (lane 3 1).queue with counter := 4294967295 }).queue.counter
      ∧ endFigure recipe ≤ min 24 ((lane 16 2).queue.filled + 1)
      ∧ endFigure recipe ≤ min 24 ((lane 15 2).queue.filled + 1) ∧ endFigure recipe ≤ (lane 0 3).queue.filled
      ∧ freeHead ready = none ∧ freeHead headsFree = some 0 ∧ (lane 0 0).queue.loads = []
      ∧ (lane 0 2).queue.filled < recipe.loadsCount ∧ recipe.loadsCount ≤ (lane 0 3).queue.filled
      ∧ (lane 0 0).lines.vatEmpty = false ∧ ({ load 1 with waitedMs := 120000 } : Load).lateDue config = true
      ∧ ({ load 1 with waitedMs := 119999 } : Load).lateDue config = false
      ∧ (recipe.stage 1).map Stage.pressure = some 120 ∧ 0 < duration 12 := by decide +kernel

def pressing (state : HeadState) (f : Head → Head) : State :=
  withHead (fun h => f { h with state := state, load := some (load 1), stage := 1, target := 1200 }) (vat .filling .flow)

theorem witness_DriveSamples :
    ((pressing .hold id).head 0).threshold config = some 1050 ∧ frozen config ready = false
      ∧ frozen config (withLines (fun l => { l with guardOpen := true }) ready) = true ∧ config.press.holdFaultTime ≠ 0
      ∧ min 600 (98 + 1) < config.press.holdFaultTime * 5 ∧ config.press.holdFaultTime * 5 ≤ min 600 (99 + 1)
      ∧ ((pressing .hold fun h => { h with under := true }).head 0).under = true
      ∧ config.press.holdFaultTime * 5 ≤ ((pressing .hold fun h => { h with faultSteps := 100 }).head 0).faultSteps
      ∧ config.press.failLimit ≤ ((pressing .hold fun h => { h with failCount := 3 }).head 0).failCount
      ∧ ((pressing .vent fun h => { h with pressure := 199, ventSteps := 1 }).head 0).pressure < 200
      ∧ 149 ≤ ((pressing .vent fun h => { h with ventSteps := 149 }).head 0).ventSteps
      ∧ ((pressing .hold id).head 0).loadUnder = false ∧ (ready.head 1).state = .unfitted := by decide +kernel

def graded (f : State → State) (state : HeadState) (g : Head → Head) : State :=
  f ((pressing state g).setPress { (pressing state g).press with airGrant := 150 })

theorem witness_PressSchedule :
    ((pressing .ramp id).head 0).recipe config = some recipe
      ∧ recipe.stage 1 = some { pressure := 120, rate := 40, hold := 12 } ∧ 0 < duration 12
      ∧ (0 : HeadNo) ∈ servedSet config (graded id .ramp fun h => { h with target := 0 })
      ∧ (0 : HeadNo) ∉ servedSet config (pressing .ramp fun h => { h with target := 0 })
      ∧ ((risingSet config (pressing .ramp fun h => { h with target := 0 })).map
          fun h => ((pressing .ramp fun h => { h with target := 0 }).head h).loadSequence).Nodup
      ∧ (0 : HeadNo) ∈ risingSet config (pressing .ramp fun h => { h with target := 0 })
      ∧ 1193 + (0 + 400) / 60 < 120 * 10 ∧ 120 * 10 ≤ 1194 + (0 + 400) / 60
      ∧ 120 * 10 + 400 / 60 < 1207 ∧ 1206 ≤ 120 * 10 + 400 / 60
      ∧ min 37800 (58 + 1) < duration 12 ∧ duration 12 ≤ min 37800 (59 + 1)
      ∧ recipe.stage 2 = some { pressure := 200, rate := 60, hold := 12 } ∧ 200 * 10 ≠ ((pressing .hold id).head 0).target
      ∧ ((pressing .hold id).head 0).stage < recipe.stageCount
      ∧ recipe.stageCount ≤ ((pressing .hold fun h => { h with stage := 2 }).head 0).stage
      ∧ recipe.stage 2 = some { pressure := 200, rate := 60, hold := 12 }
      ∧ 200 * 10 = ((pressing .hold fun h => { h with target := 2000 }).head 0).target
      ∧ duration 0 = 0 ∧ 1199 + (0 + 60) / 60 = 120 * 10 ∧ recipe.stages.length ≤ 6
      ∧ ((pressing .hold id).head 0).stageNow config = some { pressure := 120, rate := 40, hold := 12 }
      ∧ config.press.holdBand < 120 ∧ 537 * 8000 / 4095 < (120 - 15) * 10 ∧ (120 - 15) * 10 ≤ 538 * 8000 / 4095
      ∧ ((pressing .vent fun h => { h with ventSteps := 149 }).head 0).state = .vent
      ∧ after (.pressSecond 537 0 0 0) (pressing .hold fun h => { h with faultSteps := 98 })
          (fun t => decide ((t.head 0).state = .hold ∧ (t.head 0).faultSteps = 99 ∧ (t.head 0).under = false)) = true
      ∧ after (.pressSecond 537 0 0 0) (pressing .hold fun h => { h with faultSteps := 99 })
          (fun t => decide ((t.head 0).under = true ∧ (t.head 0).failCount = 1)) = true := by decide +kernel

/-- A station between batches, with a load of batch 70 on head 1 and its record, short of that load, in the history. -/
def unloading : State :=
  let s := pressing .unload id
  (s.setSeq { s.seq with current := .none }).setStore { s.store with
    history := [Slot.settled { batch with made := 1, outcome := .vatDone }] }

/-- Two loads queued for four FREE heads. -/
def assigning : State := headsFree.setQueue { ready.queue with loads := [load 1, load 2], counter := 2 }

/-- The same with head 2 in UNLOAD. -/
def emptying : State := assigning.setHead 1 { Head.init with state := .unload }

theorem witness_UnloadAndGuard :
    ((pressing .unload id).head 0).state = .unload ∧ ((pressing .unload id).head 0).load = some (load 1)
      ∧ (unloading.head 0).load = some (load 1) ∧ openRecord unloading = none ∧ (unloading.head 0).pendingOut = false
      ∧ (unloading.store.history.find? fun x => x.latest.number = 70).map Slot.latest
          = some { batch with made := 1, outcome := .vatDone }
      ∧ batch.laneClosed = false ∧ batch.pressed + 1 = 1 ∧ ¬ (batch.pressed + 1 = 2)
      ∧ assigning.queue.loads[1]? = some (load 2) ∧ (headNos.filter fun h => (assigning.head h).state = .free)[1]? = some 1
      ∧ assigning.lines.guardOpen = false ∧ assigning.lines.estop = false
      ∧ openRecord (pressing .unload id) = some batch ∧ batch.number = (load 1).batchNumber
      ∧ ((pressing .unload fun h => { h with pendingOut := true }).head 0).pendingOut = true
      ∧ (pressing .unload id).queue.loads = [] ∧ ((pressing .unload fun h => { h with load := none }).head 0).load = none
      ∧ ready.lines.guardOpen = false ∧ config.press.guardVents = false
      ∧ ({ config with press := { config.press with guardMode := 1 } } : RunConfig).press.guardVents = true
      ∧ risingSet config (pressing .ramp fun h => { h with target := 0 }) ≠ []
      ∧ config.recipe (load 2).slot = some recipe ∧ (recipe.stage 1).map Stage.pressure = some 120
      ∧ (withLines (fun l => { l with estop := true }) assigning).lines.estop = true
      ∧ (emptying.head 1).state = .unload ∧ (emptying.head 1).pendingOut = false ∧ emptying.lines.guardOpen = false
      ∧ emptying.lines.estop = false ∧ emptying.queue.loads.head? = some (load 1) ∧ freeHead emptying = some 0
      ∧ (emptying.head 2).state = .free := by decide +kernel

/-- R155: the oldest load goes to the head just unloaded where that is the lowest FREE one. -/
theorem test_unload_assigns :
    after (.headUnload 0) (emptying.setHead 0 { (emptying.head 1) with load := none })
      (fun t => (t.head 0).load == some (load 1) && t.queue.loads == [] && (t.head 2).load == some (load 2)) = true := by
  decide +kernel

/-! ### Hypotheses met: the alerts, the port and the start -/

theorem witness_AlertRaised :
    isPending .estop (withAlerts [alert .estop 3] (vat .filling .flow)) = true ∧ isPending .estop ready = false
      ∧ (vat .filling .flow).seq.step.holdable = true ∧ ready.seq.step.holdable = false
      ∧ max (config.alertLevels.getD (AlertKind.loadLate.number - 1) 0) AlertKind.loadLate.minLevel = 0
      ∧ max (config.alertLevels.getD (AlertKind.meterFault.number - 1) 0) AlertKind.meterFault.minLevel = 2
      ∧ max (config.alertLevels.getD (AlertKind.estop.number - 1) 0) AlertKind.estop.minLevel = 3
      ∧ ((withAlerts [alert .estop 3] ready).alerts.pending.map fun r => r.kind.number).Pairwise (· < ·) := by decide +kernel

theorem witness_Acknowledged :
    (alert .estop 3).kind.number = (1#8).toNat ∧ (0#8).toNat = 0 ∧ (19#8).toNat < 20 ∧ 20 ≤ (20#8).toNat
      ∧ (withAlerts [alert .estop 3] ready).alerts.pending = [alert .estop 3] ∧ ready.port.mode = .waiting
      ∧ ([] : List Byte).length ≠ 1 := by decide +kernel

theorem witness_Readouts :
    ready.port.mode = .waiting ∧ (withPort (fun p => { p with mode := .receiving }) ready).port.mode = .receiving
      ∧ [0#8] ≠ [] ∧ (List.replicate 240 0#8).length ≤ 240 ∧ 1 ≤ (1#8).toNat ∧ (11#8).toNat ≤ 11 ∧ 11 < (12#8).toNat
      ∧ 1 < (2#8).toNat ∧ State.reset.config = none ∧ ready.config = some config := by decide +kernel

def answering (work : PortWork) : State :=
  withPort (fun p => { p with
    mode := .busy, work := work, response := some { outcome := .done, code := 1, result := .none, body := [] } }) ready

theorem witness_PortFrames :
    ready.port.mode = .waiting ∧ State.reset.port.mode = .unserved ∧ (answering .none).port.mode = .busy
      ∧ (answering .restart).port.work = .restart ∧ (0#8) ≠ 0xC3#8 ∧ 100000 < 100001 ∧ 0#16 ≠ commandCrc 1 []
      ∧ commandKnown 0x1B = false ∧ 240 < (List.replicate 241 0#8).length
      ∧ (withPort (fun p => { p with mode := .receiving }) ready).port.mode = .receiving := by decide +kernel

theorem witness_SettingsWritten :
    ready.seq.step = .idle ∧ (vat .stopped .none).seq.step = .stopped
      ∧ (∀ h, (ready.head h).state ≠ .ramp ∧ (ready.head h).state ≠ .hold ∧ (ready.head h).state ≠ .vent)
      ∧ (defaultContents 11).length = sectionSize 11 ∧ rangeFault 1 (defaultContents 1) = 0 ∧ rangeFault 1 [0, 0] ≠ 0
      ∧ [1#8].length ≠ sectionSize 1 ∧ (4#8).toNat = (3 : HeadNo).val + 1 ∧ (3 : HeadNo).val < config.press.fitted
      ∧ config.press.fitted < (5#8).toNat ∧ (vat .filling .flow).seq.step ≠ .stopped
      ∧ sectionNos.map (fun n => (defaultContents n).length) = [2, 1, 24, 9, 5, 9, 19, 68, 68, 68, 68]
      ∧ (allOut.head 0).state = .out ∧ (assigning.setHead 0 (allOut.head 0)).queue.loads.head? = some (load 1)
      ∧ (assigning.setHead 0 (allOut.head 0)).lines.guardOpen = false := by decide +kernel

theorem witness_WritesVerified :
    (answering (.write 1 [8, 0])).port.work = .write 1 [8, 0] ∧ [8#8, 0#8].length = sectionSize 1 ∧ [9#8, 0#8] ≠ [8#8, 0#8]
      ∧ (answering (.erase 11)).port.work = .erase 11 ∧ (defaultContents 10).length = sectionSize 10
      ∧ (15#8).toNat < 16 ∧ State.reset.store.causes.inFlight = none
      ∧ ((Slot.settled CauseFlags.clear).write CauseFlags.clear).inFlight = some CauseFlags.clear := by decide +kernel

theorem witness_StartTaken :
    State.reset.start.mode = .starting ∧ State.reset.store.sections.any (fun x => !x.good) = false
      ∧ ((State.reset.store.sections.set 10 { Slot.settled [] with good := false }).any fun x => !x.good) = true
      ∧ State.reset.store.checkpoint.good = true ∧ State.reset.store.checkpoint.stored.record = none
      ∧ batch.outcome = .running ∧ batch.laneClosed = false ∧ ready.start.mode ≠ .starting
      ∧ (withMode .listen ready).start.listenMs = 0 ∧ ready.milk.own = none
      ∧ (sectionNos.map defaultContents).map List.length = [2, 1, 24, 9, 5, 9, 19, 68, 68, 68, 68]
      ∧ State.reset.store.sections.map (fun x => x.stored.length) = [2, 1, 24, 9, 5, 9, 19, 68, 68, 68, 68]
      ∧ stored.store.checkpoint.stored.record = some { batch with made := 2, pressed := 1 }
      ∧ (stored.store.history.filter fun x => x.good).map (fun x => x.latest.number) = [68] := by decide +kernel

/-- R178: a section with codes outside their values is taken as it stands, and the store does not differ after the start. -/
theorem test_stray_codes_are_kept :
    after .startSequence (State.reset.setStore { State.reset.store with
        sections := State.reset.store.sections.set 3 (Slot.settled [7, 1, 3, 0, 5, 2, 0, 1, 255]) })
      (fun t => !storedDiffers t && (t.config.map fun c => c.lines.sense) == some { h1 := 2, h2 := 0, h3 := 1, h4 := 255 })
      = true := by
  decide +kernel

/-- R83: the record of 68 is closed as INTERRUPTED with its lost load flagged, the bad record is dropped, and the running
batch joins them. -/
theorem test_start_recovers :
    after .startSequence stored (fun t => t.store.history.map (fun x => x.latest)
      == [{ batch with number := 68, made := 1, flagged := 1, outcome := .interrupted, laneClosed := true },
          { batch with made := 2, pressed := 1, flagged := 1, outcome := .interrupted, laneClosed := true }]
      && isPending .batchInterrupted t) = true := by
  decide +kernel

/-! ### Hypotheses met: the invariants -/

/-- A station in READY with a command in front keeps each invariant before the step that `witness_step` takes. -/
def stepping : State := (vat .filling .flow).setPending [.fillSecond]

theorem witness_step : ∃ t, step stepping = .next t := ⟨_, rfl⟩

theorem unloaded_stepping : unloaded stepping := by
  rintro (h | h) <;> cases h

theorem history_stepping : stepping.store.history = [] := rfl

theorem witness_LinkStaysSound : LinkSound stepping :=
  { unloaded := unloaded_stepping, atMostSix := Nat.zero_le 6, oneStatus := Nat.zero_le 1, silent := fun _ h => absurd rfl h }

theorem peersSound_of_nil (s : State) (u : unloaded s) (h : s.peers.records = []) : PeersSound s :=
  { unloaded := u, empty := fun _ => h, ascending := by simp [h], keys := by simp [h], atMost31 := by simp [h],
    figures := by simp [h], silent := by simp [h] }

theorem witness_PeersStaySound : PeersSound stepping := peersSound_of_nil _ unloaded_stepping rfl

theorem witness_HoldStaysSound : HoldSound stepping := ⟨nofun, nofun⟩

theorem witness_FillStaysSound : FillSound stepping :=
  { unloaded := unloaded_stepping, grant := rfl, command := Nat.le_refl 0, flow := fun h => absurd h (Nat.lt_irrefl 0),
    duty := Nat.zero_le 1000, shut := fun _ => rfl, pump := nofun, starting := nofun }

theorem witness_LaneStaysSound : LaneSound stepping :=
  { atMostSixteen := Nat.zero_le 16, ascending := .nil, onePlace := .nil, counted := nofun, filled := Nat.zero_le 24,
    queueHold := rfl }

theorem witness_HistoryStaysSound : HistorySound stepping ∧ RecordsSound stepping :=
  ⟨historySound_of_nil _ history_stepping,
    { opened := fun r h => by cases h; rfl
      checkpoint := by rintro x (rfl | h | h) r hr <;> first | cases hr | cases h }⟩

theorem witness_AlertsStaySound : AlertsSound stepping := { ordered := .nil, minimum := nofun, beacon := rfl }

theorem witness_GrantsStaySound : GrantsSound stepping :=
  { milk := Nat.le_refl 0, air := Nat.le_refl 0, gated := fun h => absurd rfl h, handedMilk := rfl, handedAir := rfl,
    degradedMilk := nofun, degradedAir := nofun }

theorem witness_KnifeStaysSound : KnifeSound stepping := ⟨rfl, nofun, fun _ => rfl⟩

end Sys2Proof.Tests
end

section
/-! PROOFS. Settles O16 (R40, R51): what each figure of a reckoning is, how the derate follows from the bands, and the
order of Table 3-3 as a strict linear order on the candidates. -/

namespace Sys2Proof.Machine

/-! ### The ranking key of Table 3-3 -/

/-- Table 3-3 read field by field: `a` stands before `b`. -/
def Candidate.RanksFirst (a b : Candidate) : Prop :=
  b.claim.level < a.claim.level ∨ (a.claim.level = b.claim.level
    ∧ ((a.claim.holding = true ∧ b.claim.holding = false) ∨ (a.claim.holding = b.claim.holding
      ∧ (b.claim.waited < a.claim.waited ∨ (a.claim.waited = b.claim.waited ∧ a.number < b.number)))))

/-- With the holding flag read as 0 or 1, every field of the table is compared as a number. -/
theorem Candidate.ranksFirst_iff (a b : Candidate) :
    a.RanksFirst b ↔ b.claim.level < a.claim.level ∨ (a.claim.level = b.claim.level
      ∧ (b.claim.holding.toNat < a.claim.holding.toNat ∨ (a.claim.holding.toNat = b.claim.holding.toNat
        ∧ (b.claim.waited < a.claim.waited ∨ (a.claim.waited = b.claim.waited ∧ a.number < b.number))))) := by
  unfold RanksFirst
  cases a.claim.holding <;> cases b.claim.holding <;>
    simp only [Bool.toNat_true, Bool.toNat_false, reduceCtorEq, Nat.lt_irrefl, Nat.lt_one_iff, Nat.not_lt_zero,
      Nat.zero_ne_one, Nat.one_ne_zero, and_true, and_false, and_self, true_and, false_and, false_or, or_false]

theorem Candidate.before_iff (a b : Candidate) : a.before b = true ↔ a.RanksFirst b := by
  unfold before RanksFirst
  by_cases level : a.claim.level = b.claim.level
  · by_cases holding : a.claim.holding = b.claim.holding
    · by_cases waited : a.claim.waited = b.claim.waited
      · simp only [level, holding, waited, ne_eq, not_true_eq_false, ↓reduceIte, decide_eq_true_eq, Nat.lt_irrefl,
          Bool.eq_true_and_eq_false_self, true_and, false_or]
      · simp only [level, holding, waited, ne_eq, not_true_eq_false, not_false_eq_true, ↓reduceIte, decide_eq_true_eq,
          Nat.lt_irrefl, Bool.eq_true_and_eq_false_self, true_and, false_and, false_or, or_false]
    · have flipped : b.claim.holding = false ↔ a.claim.holding = true := by
        rw [Bool.eq_not.2 (Ne.symm holding), Bool.not_eq_false']
      simp only [level, holding, flipped, ne_eq, not_true_eq_false, not_false_eq_true, ↓reduceIte, Nat.lt_irrefl,
        and_self, false_and, false_or, or_false, true_and]
  · simp only [level, ne_eq, not_false_eq_true, ↓reduceIte, decide_eq_true_eq, false_and, or_false]

theorem Candidate.RanksFirst.trans {a b c : Candidate} (ab : a.RanksFirst b) (bc : b.RanksFirst c) :
    a.RanksFirst c := by
  rw [ranksFirst_iff] at ab bc ⊢
  omega

theorem Candidate.RanksFirst.asymm {a b : Candidate} (ab : a.RanksFirst b) : ¬ b.RanksFirst a := by
  rw [ranksFirst_iff] at ab ⊢
  omega

/-- No two candidates at distinct numbers are equal on the whole key. -/
theorem Candidate.ranksFirst_of_not_before {a b : Candidate} (n : a.number ≠ b.number) (h : ¬ a.before b = true) :
    b.RanksFirst a := by
  rw [before_iff, ranksFirst_iff] at h
  rw [ranksFirst_iff]
  omega

/-! ### The ranking -/

theorem ranked_perm (cs : List Candidate) : (ranked cs).Perm cs := by
  induction cs with
  | nil => exact .refl _
  | cons a as ih => exact (insertRanked_perm a (ranked as)).trans (ih.cons a)

theorem insertRanked_pairwise (a : Candidate) (l : List Candidate) (ordered : l.Pairwise Candidate.RanksFirst)
    (other : ∀ b ∈ l, a.number ≠ b.number) : (insertRanked a l).Pairwise Candidate.RanksFirst := by
  induction l with
  | nil => exact List.pairwise_singleton _ a
  | cons b bs ih =>
    obtain ⟨bFirst, rest⟩ := List.pairwise_cons.1 ordered
    unfold insertRanked
    split
    case isTrue before =>
      have ab := (a.before_iff b).1 before
      refine List.pairwise_cons.2 ⟨fun c hc => ?_, ordered⟩
      obtain rfl | later := List.mem_cons.1 hc
      · exact ab
      · exact ab.trans (bFirst c later)
    case isFalse notBefore =>
      have ba := Candidate.ranksFirst_of_not_before (other b List.mem_cons_self) notBefore
      refine List.pairwise_cons.2 ⟨fun c hc => ?_, ih rest fun c hc => other c (List.mem_cons_of_mem b hc)⟩
      obtain rfl | later := List.mem_cons.1 ((insertRanked_perm a bs).mem_iff.1 hc)
      · exact ba
      · exact bFirst c later

theorem ranked_pairwise (cs : List Candidate) (distinct : (cs.map Candidate.number).Nodup) :
    (ranked cs).Pairwise Candidate.RanksFirst := by
  induction cs with
  | nil => exact .nil
  | cons a as ih =>
    obtain ⟨new, distinct⟩ := List.nodup_cons.1 distinct
    refine insertRanked_pairwise a _ (ih distinct) fun b hb same => new ?_
    exact same ▸ List.mem_map_of_mem ((ranked_perm as).mem_iff.1 hb)

/-- Two lists of the same candidates, each in the order of Table 3-3, are one list. -/
theorem eq_of_perm_of_ranksFirst {l m : List Candidate} (perm : l.Perm m) (hl : l.Pairwise Candidate.RanksFirst)
    (hm : m.Pairwise Candidate.RanksFirst) : l = m :=
  perm.eq_of_pairwise (fun _ _ _ _ ab ba => absurd ba ab.asymm) hl hm

/-! ### The walk -/

theorem walk_cons_own (own rank e : Nat) (c : Candidate) (cs : List Candidate) (h : c.number = own) :
    walk own rank e (c :: cs)
      = { rank := rank, grant := turnGrant e c.claim, remainder := e - turnGrant e c.claim } :=
  if_pos h

theorem walk_cons_other (own rank e : Nat) (c : Candidate) (cs : List Candidate) (h : c.number ≠ own) :
    walk own rank e (c :: cs) = walk own (rank + 1) (e - turnGrant e c.claim) cs :=
  if_neg h

/-- The own turn comes at the own candidate's place, the first place having the rank the walk begins with. -/
theorem walk_rank (own rank e n : Nat) (l : List Candidate) (c : Candidate)
    (distinct : (l.map Candidate.number).Nodup) (at_n : l[n]? = some c) (isOwn : c.number = own) :
    (walk own rank e l).rank = rank + n := by
  induction l generalizing rank e n with
  | nil => cases at_n
  | cons a as ih =>
    obtain ⟨new, distinct⟩ := List.nodup_cons.1 distinct
    cases n with
    | zero =>
      obtain rfl : a = c := Option.some.inj at_n
      rw [walk_cons_own _ _ _ _ _ isOwn, Nat.add_zero]
    | succ n =>
      rw [List.getElem?_cons_succ] at at_n
      have other : a.number ≠ own := fun same =>
        new (same.trans isOwn.symm ▸ List.mem_map_of_mem (List.mem_of_getElem? at_n))
      rw [walk_cons_other _ _ _ _ _ other, ih _ _ n distinct at_n, Nat.add_right_comm, Nat.add_assoc]

theorem walk_grant_le (own rank e : Nat) (l : List Candidate) : (walk own rank e l).grant ≤ e := by
  induction l generalizing rank e with
  | nil => exact Nat.zero_le e
  | cons a as ih =>
    by_cases h : a.number = own
    · rw [walk_cons_own _ _ _ _ _ h]
      exact (turnGrant_le e a.claim).1
    · rw [walk_cons_other _ _ _ _ _ h]
      exact Nat.le_trans (ih _ _) (Nat.sub_le _ _)

/-! ### The derate -/

/-- Some LIVE peer reports LOW or STARVED for the pool. -/
def PeerLow (p : Pool) (peers : List PeerRecord) : Prop :=
  ∃ r ∈ peers, r.live = true ∧ (r.reported.band p = .low ∨ r.reported.band p = .starved)

theorem Band.ne_normal_iff (b : Band) : b ≠ .normal ↔ b = .low ∨ b = .starved := by
  cases b <;> decide

theorem any_not_normal_iff (p : Pool) (peers : List PeerRecord) :
    (peers.any fun r => r.live && r.reported.band p != .normal) = true ↔ PeerLow p peers := by
  simp only [List.any_eq_true, Bool.and_eq_true, bne_iff_ne, Band.ne_normal_iff, PeerLow]

theorem derate_starved (p : Pool) (peers : List PeerRecord) : derate .starved p peers = 0 := rfl

theorem derate_low (p : Pool) (peers : List PeerRecord) : derate .low p peers = 6 := rfl

theorem derate_normal_eq (p : Pool) (peers : List PeerRecord) :
    derate .normal p peers = if peers.any fun r => r.live && r.reported.band p != .normal then 6 else 8 := by
  simp only [derate, reduceCtorEq, if_false, false_or]

theorem derate_normal_of_peerLow (p : Pool) (peers : List PeerRecord) (h : PeerLow p peers) :
    derate .normal p peers = 6 := by
  rw [derate_normal_eq, if_pos ((any_not_normal_iff p peers).2 h)]

theorem derate_normal (p : Pool) (peers : List PeerRecord) (h : ¬ PeerLow p peers) : derate .normal p peers = 8 := by
  rw [derate_normal_eq, if_neg fun any => h ((any_not_normal_iff p peers).1 any)]

/-! ### The reckoning -/

/-- The effective capacity of a reckoning, (C × d) div 8 (R40). -/
def effectiveCapacity (c : RunConfig) (p : Pool) (s : State) : Nat :=
  (c.pool p).capacity * derate (s.pool p).band p s.peers.records / 8

/-- Every reckoning, gated or not, keeps d and E, and its grant is at most E. -/
theorem reckon_figures (c : RunConfig) (p : Pool) (s : State) :
    ((reckon c p s).pool p).last.derate = derate (s.pool p).band p s.peers.records
      ∧ ((reckon c p s).pool p).last.effective = effectiveCapacity c p s
      ∧ ((reckon c p s).pool p).grant ≤ effectiveCapacity c p s := by
  simp only [reckon]
  split
  case h_1 =>
    simp only [setGrant_pool, pool_setPool_same, true_and]
    exact ⟨rfl, Nat.le_trans (Nat.min_le_left _ _) (walk_grant_le _ _ _ _)⟩
  case h_2 =>
    simp only [setGrant_pool, pool_setPool_same, true_and]
    exact ⟨rfl, Nat.zero_le _⟩

/-- The derate factor decides the two figures of R40. -/
theorem reckon_last_of_derate (c : RunConfig) (p : Pool) (s : State) {d : Nat}
    (h : derate (s.pool p).band p s.peers.records = d) :
    ((reckon c p s).pool p).last.derate = d
      ∧ ((reckon c p s).pool p).last.effective = (c.pool p).capacity * d / 8 := by
  obtain ⟨factor, effective, -⟩ := reckon_figures c p s
  exact ⟨factor.trans h, by rw [effective, effectiveCapacity, h]⟩

theorem reckon_of_capacity_zero (c : RunConfig) (p : Pool) (s : State) (h : (c.pool p).capacity = 0) :
    ((reckon c p s).pool p).last.effective = 0 ∧ ((reckon c p s).pool p).grant = 0 := by
  obtain ⟨-, effective, grant⟩ := reckon_figures c p s
  have zero : effectiveCapacity c p s = 0 := by rw [effectiveCapacity, h, Nat.zero_mul, Nat.zero_div]
  exact ⟨effective.trans zero, Nat.le_zero.1 (zero ▸ grant)⟩

/-- Settles O16: d and E from the bands, and the ranking as the only arrangement in the strict order of Table 3-3. -/
theorem capacityAndRanking : Obligations.CapacityAndRanking := by
  refine ⟨fun c p s => ⟨fun own => ?starved, fun low => ?derated, fun own peers => ?full, reckon_of_capacity_zero c p s⟩,
    fun cs distinct => ?ranking⟩
  case starved =>
    obtain ⟨factor, effective⟩ := reckon_last_of_derate c p s (own ▸ derate_starved p _)
    exact ⟨factor, by rw [effective, Nat.mul_zero, Nat.zero_div]⟩
  case derated =>
    refine reckon_last_of_derate c p s ?_
    obtain own | ⟨own, peers⟩ := low
    · exact own ▸ derate_low p _
    · exact own ▸ derate_normal_of_peerLow p _ peers
  case full =>
    obtain ⟨factor, effective⟩ := reckon_last_of_derate c p s (own ▸ derate_normal p _ peers)
    exact ⟨factor, by rw [effective, Nat.mul_div_cancel _ (by decide)]⟩
  case ranking =>
    have perm := ranked_perm cs
    have ordered := ranked_pairwise cs distinct
    have distinctRanked := (perm.map Candidate.number).nodup_iff.2 distinct
    refine ⟨perm, ordered, fun m permM orderedM => ?_, fun own e n c at_n isOwn => ?_⟩
    · exact eq_of_perm_of_ranksFirst (permM.trans perm.symm) orderedM ordered
    · rw [walk_rank own 1 e n _ c distinctRanked at_n isOwn, Nat.add_comm]

end Sys2Proof.Machine
end

section
/-! PROOFS. Settles O20 and O23 (R64, R67, R71): how an order is taken where the line is served, the first condition of
Table 4-2 that fails, and the orders HOLD and CLEAR. -/

namespace Sys2Proof.Machine

/-! ### Parts left alone -/

theorem Part.kept_trans {p : Part} {s t u : State} (st : p.kept s t) (tu : p.kept t u) : p.kept s u := by
  cases p
  case link =>
    have later : u.link = { t.link with changed := u.link.changed } := tu
    have earlier : t.link = { s.link with changed := t.link.changed } := st
    rw [earlier] at later
    exact later
  all_goals exact Eq.trans tu st

theorem OnlyChanges.trans {l : List Part} {s t u : State} (st : OnlyChanges l s t) (tu : OnlyChanges l t u) :
    OnlyChanges l s u :=
  fun p out => Part.kept_trans (st p out) (tu p out)

theorem OnlyChanges.mono {l m : List Part} {s t : State} (h : OnlyChanges l s t) (sub : l ⊆ m) : OnlyChanges m s t :=
  fun p out => h p fun inside => out (sub inside)

theorem onlyChanges_setSeq (s : State) (x : SeqState) : OnlyChanges [.seq] s (s.setSeq x) := by
  intro p out
  cases p <;> simp_all [Part.kept]

theorem onlyChanges_setLink (s : State) (x : LinkState) : OnlyChanges [.link] s (s.setLink x) := by
  intro p out
  cases p <;> simp_all [Part.kept]

/-- The mark of a changed STATUS content counts as no change. -/
theorem Part.kept_noteStatus (p : Part) (b s : State) : p.kept s (noteStatus b s) := by
  unfold noteStatus
  split <;> cases p <;> rfl

theorem OnlyChanges.noteStatus {l : List Part} {s t : State} (h : OnlyChanges l s t) (b : State) :
    OnlyChanges l s (noteStatus b t) :=
  h.trans fun p _ => p.kept_noteStatus b t

theorem onlyChanges_addReason (r : Reason) (s : State) :
    OnlyChanges [.seq, .milk, .fill, .coag, .knife] s (addReason r s) := by
  intro p out
  cases p <;> simp_all [Part.kept]

/-! ### The REPLY and the STATUS contents -/

/-- An offer changes the Link Controller alone. -/
theorem offer_eq_setLink (s : State) (f : TxFrame) : ∃ l, offer s f = s.setLink l := by
  unfold offer
  split
  · exact ⟨s.link, rfl⟩
  · exact ⟨_, rfl⟩

/-- What an answered order leaves is what its effect left, but for the Link Controller. -/
theorem answered_eq_setLink (all : Bool) (sender code tag : Byte) (a : Answer) :
    ∃ l, answered all sender code tag a = a.1.setLink l := by
  cases all
  · exact offer_eq_setLink _ _
  · exact ⟨a.1.link, rfl⟩

/-- The queue takes the same REPLY whatever else of the state an order has changed. -/
theorem answered_link_congr (all : Bool) (sender code tag : Byte) (v : Verdict) {s t : State}
    (start : t.start = s.start) (link : t.link = s.link) :
    (answered all sender code tag (t, v)).link = (answered all sender code tag (s, v)).link := by
  cases all
  · simp only [answered, reply, offer, start, Bool.false_eq_true, if_false]
    split
    · exact link
    · simp only [State.setLink_link, link]
  · exact link

@[simp] theorem answered_seq (all : Bool) (sender code tag : Byte) (a : Answer) :
    (answered all sender code tag a).seq = a.1.seq := by
  obtain ⟨l, eq⟩ := answered_eq_setLink all sender code tag a
  rw [eq, State.setLink_seq]

/-- No STATUS content is of the Link Controller. -/
theorem statusContents_answered (all : Bool) (sender code tag : Byte) (a : Answer) :
    statusContents (answered all sender code tag a) = statusContents a.1 := by
  obtain ⟨l, eq⟩ := answered_eq_setLink all sender code tag a
  rw [eq]
  rfl

/-- The answer adds the Link Controller to what an order's effect changes. -/
theorem OnlyChanges.answered {l : List Part} {s : State} {a : Answer} (h : OnlyChanges l s a.1) (link : .link ∈ l)
    (all : Bool) (sender code tag : Byte) : OnlyChanges l s (answered all sender code tag a) := by
  obtain ⟨x, eq⟩ := answered_eq_setLink all sender code tag a
  rw [eq]
  exact h.trans ((onlyChanges_setLink a.1 x).mono (by simpa using link))

/-- An order that changes nothing but the queue marks no change of STATUS content. -/
theorem noteStatus_answered_same (s : State) (all : Bool) (sender code tag : Byte) (v : Verdict) :
    noteStatus s (answered all sender code tag (s, v)) = answered all sender code tag (s, v) := by
  obtain ⟨l, eq⟩ := answered_eq_setLink all sender code tag (s, v)
  exact if_pos (.inr ⟨(statusContents_answered all sender code tag (s, v)).symm, by rw [eq, State.setLink_start]⟩)

@[simp] theorem noteStatus_queue (b s : State) : (noteStatus b s).link.queue = s.link.queue := by
  unfold noteStatus
  split <;> rfl

/-! ### Taking an order -/

theorem Mode.served_of_modes {m : Mode} (h : m = .listen ∨ m = .ready ∨ m = .mute) : m.served = true := by
  obtain rfl | rfl | rfl := h <;> rfl

/-- The event of an order where the line is served (R17, R18). -/
theorem event_takeOrder {c : RunConfig} {s : State} (running : s.config = some c) (served : s.start.mode.served = true)
    (all : Bool) (sender code tag : Byte) (f : RunConfig → Answer) :
    event s (takeOrder s all sender code tag f) = .next (noteStatus s (answered all sender code tag (f c))) := by
  rw [event_eq, takeOrder, whenRunning, running]
  simp only [served, if_true]

/-- The event of an order that leaves the state as it was. -/
theorem event_takeOrder_same {c : RunConfig} {s : State} {v : Verdict} (running : s.config = some c)
    (served : s.start.mode.served = true) (all : Bool) (sender code tag : Byte) {f : RunConfig → Answer}
    (same : f c = (s, v)) :
    event s (takeOrder s all sender code tag f) = .next (answered all sender code tag (s, v)) := by
  rw [event_takeOrder running served, same, noteStatus_answered_same]

/-! ### The conditions of Table 4-2 (R64) -/

theorem RunConfig.present_eq_some_iff (c : RunConfig) (slot : Nat) (r : Recipe) :
    c.present slot = some r ↔ c.recipe slot = some r ∧ r.isPresent = true := by
  unfold present
  cases c.recipe slot with
  | none => simp
  | some q =>
    by_cases h : q.isPresent = true
    · simp only [h, if_true, Option.some.injEq]
      exact ⟨fun eq => ⟨eq, eq ▸ h⟩, And.left⟩
    · simp only [h, if_false, Option.some.injEq, reduceCtorEq, false_iff, Bool.false_eq_true]
      rintro ⟨rfl, present⟩
      exact h present

theorem RunConfig.present_eq_none (c : RunConfig) (slot : Nat)
    (h : ¬ ∃ r, c.recipe slot = some r ∧ r.isPresent = true) : c.present slot = none :=
  Option.eq_none_iff_forall_ne_some.2 fun r eq => h ⟨r, (c.present_eq_some_iff slot r).1 eq⟩

section Conditions

variable {c : RunConfig} {slot : Nat} {s : State}

theorem startCheck_of_not_ready (mode : s.start.mode ≠ .ready) : startCheck c slot s = .error .refusedListen :=
  if_pos mode

theorem startCheck_of_not_idle (mode : s.start.mode = .ready) (step : s.seq.step ≠ .idle) :
    startCheck c slot s = .error .refusedState := by
  rw [startCheck, if_neg (not_not_intro mode), if_pos step]

theorem startCheck_of_estop (mode : s.start.mode = .ready) (step : s.seq.step = .idle) (estop : s.lines.estop = true) :
    startCheck c slot s = .error .refusedState := by
  rw [startCheck, if_neg (not_not_intro mode), if_neg (not_not_intro step), if_pos estop]

theorem startCheck_of_empty (mode : s.start.mode = .ready) (step : s.seq.step = .idle) (estop : s.lines.estop = false)
    (empty : c.present slot = none) : startCheck c slot s = .error .refusedSlot := by
  rw [startCheck, if_neg (not_not_intro mode), if_neg (not_not_intro step), if_neg (Bool.eq_false_iff.1 estop), empty]

/-- With the other conditions met the usable heads decide. -/
theorem startCheck_of_recipe {r : Recipe} (mode : s.start.mode = .ready) (step : s.seq.step = .idle)
    (estop : s.lines.estop = false) (holds : c.present slot = some r) :
    startCheck c slot s = if usableHeads s < r.minHeads then .error .refusedHeads else .ok r := by
  rw [startCheck, if_neg (not_not_intro mode), if_neg (not_not_intro step), if_neg (Bool.eq_false_iff.1 estop), holds]

end Conditions

theorem startOrder_of_error {c : RunConfig} {slot : Nat} {s : State} {v : Verdict}
    (check : startCheck c slot s = .error v) : startOrder c slot s = (s, v) := by
  rw [startOrder, check]

theorem startOrder_of_ok {c : RunConfig} {slot : Nat} {s : State} {r : Recipe} (check : startCheck c slot s = .ok r) :
    startOrder c slot s = (openBatch c slot r s, .accepted) := by
  rw [startOrder, check]

/-- Settles O20: the verdict of startCheck is the answer, and each condition of Table 4-2 has its own equation. -/
theorem startVerdict : Obligations.StartVerdict := by
  intro c s sender arg tag running modes
  have served := Mode.served_of_modes modes
  have refused : ∀ v, startCheck c arg.toNat s = .error v →
      exec (.orderStart sender arg tag) s = .next (answered false sender 1 tag (s, v)) := fun v check =>
    event_takeOrder_same running served false sender 1 tag (startOrder_of_error check)
  refine ⟨fun mode => refused _ (startCheck_of_not_ready mode),
    fun mode step => refused _ (startCheck_of_not_idle mode step),
    fun mode step estop => refused _ (startCheck_of_estop mode step estop),
    fun mode step estop empty => refused _ (startCheck_of_empty mode step estop (c.present_eq_none _ empty)),
    fun r mode step estop holds few => refused _ ?heads,
    fun r mode step estop holds enough => ?accepted⟩
  case heads =>
    rw [startCheck_of_recipe mode step estop ((c.present_eq_some_iff _ r).2 holds), if_pos few]
  case accepted =>
    have check : startCheck c arg.toNat s = .ok r := by
      rw [startCheck_of_recipe mode step estop ((c.present_eq_some_iff _ r).2 holds), if_neg (Nat.not_lt.2 enough)]
    rw [exec_orderStart, execOrderStart, event_takeOrder running served, startOrder_of_ok check]
    rfl

/-! ### HOLD (R67) -/

theorem Step.holdable_iff (st : Step) : st.holdable = true ↔ st ≠ .idle ∧ st ≠ .stopped := by
  cases st <;> decide

theorem Step.holdable_eq_false {st : Step} (h : st = .idle ∨ st = .stopped) : st.holdable = false := by
  obtain rfl | rfl := h <;> rfl

/-- The held values touch neither the set nor the step and phase. -/
theorem applyHold_seq (s : State) :
    (applyHold s).seq.hold = s.seq.hold ∧ (applyHold s).seq.step = s.seq.step
      ∧ (applyHold s).seq.phase = s.seq.phase := by
  unfold applyHold
  split <;> simp

theorem changeRecord_seq (f : BatchRecord → BatchRecord) (s : State) :
    (changeRecord f s).seq.hold = s.seq.hold ∧ (changeRecord f s).seq.step = s.seq.step
      ∧ (changeRecord f s).seq.phase = s.seq.phase := by
  unfold changeRecord
  split <;> simp

theorem HoldSet.put_has (h : HoldSet) (r : Reason) : h.put r (h.has r) = h := by
  cases r <;> rfl

theorem addReason_of_has {r : Reason} {s : State} (present : s.seq.hold.has r = true) : addReason r s = s :=
  if_pos (Bool.or_eq_true_iff.2 (.inr present))

/-- In a holdable step the reason stands in the set afterwards, whether or not it stood there before (R61). -/
theorem addReason_seq (r : Reason) {s : State} (holdable : s.seq.step.holdable = true) :
    (addReason r s).seq.hold = s.seq.hold.put r true ∧ (addReason r s).seq.step = s.seq.step
      ∧ (addReason r s).seq.phase = s.seq.phase := by
  by_cases present : s.seq.hold.has r = true
  · have same : s.seq.hold.put r true = s.seq.hold := present ▸ s.seq.hold.put_has r
    rw [addReason_of_has present, same]
    exact ⟨rfl, rfl, rfl⟩
  · simp only [addReason, holdable, present, Bool.not_true, Bool.or_false, Bool.false_eq_true, if_false]
    split <;> split <;> simp [applyHold_seq, noteFirstFault, changeRecord_seq]

theorem holdOrder_of_holdable {s : State} (holdable : s.seq.step.holdable = true) :
    holdOrder s = (addReason .order s, .accepted) :=
  if_pos holdable

theorem holdOrder_of_not_holdable {s : State} (h : s.seq.step.holdable = false) : holdOrder s = (s, .refusedState) :=
  if_neg (Bool.eq_false_iff.1 h)

/-- What a HOLD leaves where it is accepted. -/
def heldByOrder (s : State) (all : Bool) (sender tag : Byte) : State :=
  noteStatus s (answered all sender 2 tag (addReason .order s, .accepted))

theorem heldByOrder_seq (s : State) (all : Bool) (sender tag : Byte) :
    (heldByOrder s all sender tag).seq = (addReason .order s).seq := by
  simp [heldByOrder]

theorem heldByOrder_queue (s : State) (all : Bool) (sender tag : Byte) :
    (heldByOrder s all sender tag).link.queue = (answered all sender 2 tag (s, .accepted)).link.queue := by
  rw [heldByOrder, noteStatus_queue, answered_link_congr (s := s) all sender 2 tag .accepted (by simp) (by simp)]

theorem onlyChanges_heldByOrder (s : State) (all : Bool) (sender tag : Byte) :
    OnlyChanges [.seq, .milk, .fill, .coag, .knife, .link] s (heldByOrder s all sender tag) :=
  have effect := (onlyChanges_addReason .order s).mono (m := [.seq, .milk, .fill, .coag, .knife, .link]) (by simp)
  (effect.answered (by simp) all sender 2 tag).noteStatus s

/-! ### CLEAR (R71) -/

/-- The vat in IDLE with no current batch. -/
def clearedVat (s : State) : State :=
  s.setSeq { s.seq with step := .idle, phase := .none, hold := HoldSet.clear, current := .none }

/-- With no open record the entry into IDLE writes no checkpoint. -/
theorem clearOrder_of_stopped {s : State} (step : s.seq.step = .stopped) (estop : s.lines.estop = false) :
    clearOrder s = (clearedVat s, .accepted) :=
  if_pos ⟨step, estop⟩

theorem clearOrder_refused {s : State} (h : s.seq.step ≠ .stopped ∨ s.lines.estop = true) :
    clearOrder s = (s, .refusedState) := by
  refine if_neg fun ⟨step, estop⟩ => ?_
  obtain other | active := h
  · exact other step
  · exact Bool.eq_false_iff.1 estop active

/-- Settles O23: HOLD by what a reason's entry changes, CLEAR by the two outcomes of its condition. -/
theorem holdAndClearOrders : Obligations.HoldAndClearOrders := by
  refine ⟨fun c s all sender arg tag running modes => ?hold, fun c s sender arg tag running modes => ?clear⟩
  case hold =>
    have served := Mode.served_of_modes modes
    refine ⟨fun step => ?refused, fun notIdle notStopped => ?accepted, fun notIdle notStopped order => ?again⟩
    case refused =>
      exact event_takeOrder_same running served all sender 2 tag
        (holdOrder_of_not_holdable (Step.holdable_eq_false step))
    case accepted =>
      have holdable := (Step.holdable_iff _).2 ⟨notIdle, notStopped⟩
      obtain ⟨hold, step, phase⟩ := addReason_seq .order holdable
      have seq := heldByOrder_seq s all sender tag
      refine ⟨heldByOrder s all sender tag, ?_, seq ▸ hold, seq ▸ step, seq ▸ phase,
        heldByOrder_queue s all sender tag, onlyChanges_heldByOrder s all sender tag⟩
      rw [exec_orderHold, execOrderHold, event_takeOrder running served, holdOrder_of_holdable holdable]
      rfl
    case again =>
      have holdable := (Step.holdable_iff _).2 ⟨notIdle, notStopped⟩
      refine event_takeOrder_same running served all sender 2 tag ?_
      rw [holdOrder_of_holdable holdable, addReason_of_has (r := .order) order]
  case clear =>
    have served := Mode.served_of_modes modes
    refine ⟨fun step estop => ⟨?event, ?number, ?frame⟩, fun blocked => ?refused⟩
    case event =>
      rw [exec_orderClear, execOrderClear, event_takeOrder running served, clearOrder_of_stopped step estop]
      rfl
    case number =>
      exact congrArg Reported.batchNumber (statusContents_answered false sender 6 tag (clearedVat s, .accepted))
    case frame =>
      have effect : OnlyChanges [.seq, .link] s (clearedVat s) := (onlyChanges_setSeq s _).mono (by simp)
      exact effect.answered (a := (clearedVat s, .accepted)) (by simp) false sender 6 tag
    case refused => exact event_takeOrder_same running served false sender 6 tag (clearOrder_refused blocked)

end Sys2Proof.Machine
end
